-- ==== Sys2Proof/Word.lean ====
section
/-! DEFINITION. The machine's two word types (R7, R10): bytes and 16-bit words, both unsigned bit
vectors whose `+` and `-` wrap modulo 2^8 and 2^16. Bit 0 is the least significant bit (R9). -/

namespace Sys2Proof

/-- UInt8 of R10. -/
abbrev Byte := BitVec 8

/-- UInt16 of R10: a register pair, SP, PC or an address. -/
abbrev Word16 := BitVec 16

end Sys2Proof
end

