-- ==== Sys2Proof/Syntax.lean ====
section
/-! DEFINITION. The instruction set as syntax: the operand fields of R62 to R67 and R131, and `Instr`, one
constructor per row of the opcode table (R73, R74; 244 base instructions, the prefix, the eleven illegal bytes, 256 CB
instructions: R79 counts 245 beside the prefix, and the model follows R73's grid; log entry 12). An operand that follows the opcode in the instruction stream (R68) is the constructor's argument. -/

namespace Sys2Proof

/-- The seven registers of the field r (R62, codes 0 to 5 and 7). -/
inductive Reg8 where
  | b | c | d | e | h | l | a
  deriving DecidableEq, Repr

/-- The whole field r (R62): a register, or for code 6 the byte in memory at address HL. -/
inductive Operand8 where
  | reg (r : Reg8)
  | atHl
  deriving DecidableEq, Repr

/-- The field rr (R63). -/
inductive Pair where
  | bc | de | hl | sp
  deriving DecidableEq, Repr

/-- The field rr2 of PUSH and POP (R64). -/
inductive StackPair where
  | bc | de | hl | af
  deriving DecidableEq, Repr

/-- The field cc (R65). -/
inductive Cond where
  | nz | z | nc | c
  deriving DecidableEq, Repr

/-- The field alu (R66). -/
inductive AluOp where
  | add | adc | sub | sbc | and | xor | or | cp
  deriving DecidableEq, Repr

/-- The field rot (R67). -/
inductive RotOp where
  | rlc | rrc | rl | rr | sla | sra | swap | srl
  deriving DecidableEq, Repr

/-- The three forms of an 8-bit ALU instruction's second operand (R140). -/
inductive Source where
  | reg (r : Reg8)
  | atHl
  | imm (n8 : Byte)
  deriving DecidableEq, Repr

/-- The memory addressing modes of the accumulator loads and stores (R131), (HL) apart. -/
inductive AddrMode where
  | atBc
  | atDe
  | atHlInc
  | atHlDec
  | atA16 (a16 : Word16)
  | atA8 (a8 : Byte)
  | atC
  deriving DecidableEq, Repr

/-- One constructor per row of spec/opcode_table.json: first the rows with an operand in the instruction stream,
then the others, each in the table's order (Lean's runtime gives a constructor with arguments a small tag).
DESIGN CHOICE (safe, log entry 12): R79 counts 245 base instructions besides the prefix (245 + 1 + 11), R7 counts 245
defined base bytes, and R73's grid has 245 with the prefix among them. The model follows the grid: 244 base
instructions, the prefix, 11 illegal bytes (256 first bytes), and 256 CB instructions. -/
inductive Instr where
  | ldBcN16 (n16 : Word16)  -- LD BC,n16, 01 (R111)
  | ldBN8 (n8 : Byte)  -- LD B,n8, 06 (R118)
  | ldAtA16Sp (a16 : Word16)  -- LD (a16),SP, 08 (R123)
  | ldCN8 (n8 : Byte)  -- LD C,n8, 0E (R118)
  | stop (n8 : Byte)  -- STOP, 10 (R203)
  | ldDeN16 (n16 : Word16)  -- LD DE,n16, 11 (R111)
  | ldDN8 (n8 : Byte)  -- LD D,n8, 16 (R118)
  | jrE8 (e8 : Byte)  -- JR e8, 18 (R177)
  | ldEN8 (n8 : Byte)  -- LD E,n8, 1E (R118)
  | jrNzE8 (e8 : Byte)  -- JR NZ,e8, 20 (R178)
  | ldHlN16 (n16 : Word16)  -- LD HL,n16, 21 (R111)
  | ldHN8 (n8 : Byte)  -- LD H,n8, 26 (R118)
  | jrZE8 (e8 : Byte)  -- JR Z,e8, 28 (R178)
  | ldLN8 (n8 : Byte)  -- LD L,n8, 2E (R118)
  | jrNcE8 (e8 : Byte)  -- JR NC,e8, 30 (R178)
  | ldSpN16 (n16 : Word16)  -- LD SP,n16, 31 (R111)
  | ldAtHlN8 (n8 : Byte)  -- LD (HL),n8, 36 (R119)
  | jrCE8 (e8 : Byte)  -- JR C,e8, 38 (R178)
  | ldAN8 (n8 : Byte)  -- LD A,n8, 3E (R118)
  | jpNzA16 (a16 : Word16)  -- JP NZ,a16, C2 (R175)
  | jpA16 (a16 : Word16)  -- JP a16, C3 (R174)
  | callNzA16 (a16 : Word16)  -- CALL NZ,a16, C4 (R180)
  | addAN8 (n8 : Byte)  -- ADD A,n8, C6 (R141)
  | jpZA16 (a16 : Word16)  -- JP Z,a16, CA (R175)
  | callZA16 (a16 : Word16)  -- CALL Z,a16, CC (R180)
  | callA16 (a16 : Word16)  -- CALL a16, CD (R179)
  | adcAN8 (n8 : Byte)  -- ADC A,n8, CE (R142)
  | jpNcA16 (a16 : Word16)  -- JP NC,a16, D2 (R175)
  | callNcA16 (a16 : Word16)  -- CALL NC,a16, D4 (R180)
  | subN8 (n8 : Byte)  -- SUB n8, D6 (R143)
  | jpCA16 (a16 : Word16)  -- JP C,a16, DA (R175)
  | callCA16 (a16 : Word16)  -- CALL C,a16, DC (R180)
  | sbcAN8 (n8 : Byte)  -- SBC A,n8, DE (R144)
  | ldhAtA8A (a8 : Byte)  -- LDH (a8),A, E0 (R124)
  | andN8 (n8 : Byte)  -- AND n8, E6 (R145)
  | addSpE8 (e8 : Byte)  -- ADD SP,e8, E8 (R156)
  | ldAtA16A (a16 : Word16)  -- LD (a16),A, EA (R128)
  | xorN8 (n8 : Byte)  -- XOR n8, EE (R146)
  | ldhAAtA8 (a8 : Byte)  -- LDH A,(a8), F0 (R125)
  | orN8 (n8 : Byte)  -- OR n8, F6 (R147)
  | ldHlSpE8 (e8 : Byte)  -- LD HL,SP+e8, F8 (R157)
  | ldAAtA16 (a16 : Word16)  -- LD A,(a16), FA (R129)
  | cpN8 (n8 : Byte)  -- CP n8, FE (R148)
  | nop  -- NOP, 00 (R110)
  | ldAtBcA  -- LD (BC),A, 02 (R112)
  | incBc  -- INC BC, 03 (R154)
  | incB  -- INC B, 04 (R149)
  | decB  -- DEC B, 05 (R151)
  | rlca  -- RLCA, 07 (R200)
  | addHlBc  -- ADD HL,BC, 09 (R153)
  | ldAAtBc  -- LD A,(BC), 0A (R113)
  | decBc  -- DEC BC, 0B (R155)
  | incC  -- INC C, 0C (R149)
  | decC  -- DEC C, 0D (R151)
  | rrca  -- RRCA, 0F (R201)
  | ldAtDeA  -- LD (DE),A, 12 (R112)
  | incDe  -- INC DE, 13 (R154)
  | incD  -- INC D, 14 (R149)
  | decD  -- DEC D, 15 (R151)
  | rla  -- RLA, 17 (R204)
  | addHlDe  -- ADD HL,DE, 19 (R153)
  | ldAAtDe  -- LD A,(DE), 1A (R113)
  | decDe  -- DEC DE, 1B (R155)
  | incE  -- INC E, 1C (R149)
  | decE  -- DEC E, 1D (R151)
  | rra  -- RRA, 1F (R205)
  | ldAtHlIncA  -- LD (HL+),A, 22 (R114)
  | incHl  -- INC HL, 23 (R154)
  | incH  -- INC H, 24 (R149)
  | decH  -- DEC H, 25 (R151)
  | daa  -- DAA, 27 (R206)
  | addHlHl  -- ADD HL,HL, 29 (R153)
  | ldAAtHlInc  -- LD A,(HL+), 2A (R116)
  | decHl  -- DEC HL, 2B (R155)
  | incL  -- INC L, 2C (R149)
  | decL  -- DEC L, 2D (R151)
  | cpl  -- CPL, 2F (R207)
  | ldAtHlDecA  -- LD (HL-),A, 32 (R115)
  | incSp  -- INC SP, 33 (R154)
  | incAtHl  -- INC (HL), 34 (R150)
  | decAtHl  -- DEC (HL), 35 (R152)
  | scf  -- SCF, 37 (R208)
  | addHlSp  -- ADD HL,SP, 39 (R153)
  | ldAAtHlDec  -- LD A,(HL-), 3A (R117)
  | decSp  -- DEC SP, 3B (R155)
  | incA  -- INC A, 3C (R149)
  | decA  -- DEC A, 3D (R151)
  | ccf  -- CCF, 3F (R209)
  | ldBB  -- LD B,B, 40 (R120)
  | ldBC  -- LD B,C, 41 (R120)
  | ldBD  -- LD B,D, 42 (R120)
  | ldBE  -- LD B,E, 43 (R120)
  | ldBH  -- LD B,H, 44 (R120)
  | ldBL  -- LD B,L, 45 (R120)
  | ldBAtHl  -- LD B,(HL), 46 (R121)
  | ldBA  -- LD B,A, 47 (R120)
  | ldCB  -- LD C,B, 48 (R120)
  | ldCC  -- LD C,C, 49 (R120)
  | ldCD  -- LD C,D, 4A (R120)
  | ldCE  -- LD C,E, 4B (R120)
  | ldCH  -- LD C,H, 4C (R120)
  | ldCL  -- LD C,L, 4D (R120)
  | ldCAtHl  -- LD C,(HL), 4E (R121)
  | ldCA  -- LD C,A, 4F (R120)
  | ldDB  -- LD D,B, 50 (R120)
  | ldDC  -- LD D,C, 51 (R120)
  | ldDD  -- LD D,D, 52 (R120)
  | ldDE  -- LD D,E, 53 (R120)
  | ldDH  -- LD D,H, 54 (R120)
  | ldDL  -- LD D,L, 55 (R120)
  | ldDAtHl  -- LD D,(HL), 56 (R121)
  | ldDA  -- LD D,A, 57 (R120)
  | ldEB  -- LD E,B, 58 (R120)
  | ldEC  -- LD E,C, 59 (R120)
  | ldED  -- LD E,D, 5A (R120)
  | ldEE  -- LD E,E, 5B (R120)
  | ldEH  -- LD E,H, 5C (R120)
  | ldEL  -- LD E,L, 5D (R120)
  | ldEAtHl  -- LD E,(HL), 5E (R121)
  | ldEA  -- LD E,A, 5F (R120)
  | ldHB  -- LD H,B, 60 (R120)
  | ldHC  -- LD H,C, 61 (R120)
  | ldHD  -- LD H,D, 62 (R120)
  | ldHE  -- LD H,E, 63 (R120)
  | ldHH  -- LD H,H, 64 (R120)
  | ldHL  -- LD H,L, 65 (R120)
  | ldHAtHl  -- LD H,(HL), 66 (R121)
  | ldHA  -- LD H,A, 67 (R120)
  | ldLB  -- LD L,B, 68 (R120)
  | ldLC  -- LD L,C, 69 (R120)
  | ldLD  -- LD L,D, 6A (R120)
  | ldLE  -- LD L,E, 6B (R120)
  | ldLH  -- LD L,H, 6C (R120)
  | ldLL  -- LD L,L, 6D (R120)
  | ldLAtHl  -- LD L,(HL), 6E (R121)
  | ldLA  -- LD L,A, 6F (R120)
  | ldAtHlB  -- LD (HL),B, 70 (R122)
  | ldAtHlC  -- LD (HL),C, 71 (R122)
  | ldAtHlD  -- LD (HL),D, 72 (R122)
  | ldAtHlE  -- LD (HL),E, 73 (R122)
  | ldAtHlH  -- LD (HL),H, 74 (R122)
  | ldAtHlL  -- LD (HL),L, 75 (R122)
  | halt  -- HALT, 76 (R202)
  | ldAtHlA  -- LD (HL),A, 77 (R122)
  | ldAB  -- LD A,B, 78 (R120)
  | ldAC  -- LD A,C, 79 (R120)
  | ldAD  -- LD A,D, 7A (R120)
  | ldAE  -- LD A,E, 7B (R120)
  | ldAH  -- LD A,H, 7C (R120)
  | ldAL  -- LD A,L, 7D (R120)
  | ldAAtHl  -- LD A,(HL), 7E (R121)
  | ldAA  -- LD A,A, 7F (R120)
  | addAB  -- ADD A,B, 80 (R141)
  | addAC  -- ADD A,C, 81 (R141)
  | addAD  -- ADD A,D, 82 (R141)
  | addAE  -- ADD A,E, 83 (R141)
  | addAH  -- ADD A,H, 84 (R141)
  | addAL  -- ADD A,L, 85 (R141)
  | addAAtHl  -- ADD A,(HL), 86 (R141)
  | addAA  -- ADD A,A, 87 (R141)
  | adcAB  -- ADC A,B, 88 (R142)
  | adcAC  -- ADC A,C, 89 (R142)
  | adcAD  -- ADC A,D, 8A (R142)
  | adcAE  -- ADC A,E, 8B (R142)
  | adcAH  -- ADC A,H, 8C (R142)
  | adcAL  -- ADC A,L, 8D (R142)
  | adcAAtHl  -- ADC A,(HL), 8E (R142)
  | adcAA  -- ADC A,A, 8F (R142)
  | subB  -- SUB B, 90 (R143)
  | subC  -- SUB C, 91 (R143)
  | subD  -- SUB D, 92 (R143)
  | subE  -- SUB E, 93 (R143)
  | subH  -- SUB H, 94 (R143)
  | subL  -- SUB L, 95 (R143)
  | subAtHl  -- SUB (HL), 96 (R143)
  | subA  -- SUB A, 97 (R143)
  | sbcAB  -- SBC A,B, 98 (R144)
  | sbcAC  -- SBC A,C, 99 (R144)
  | sbcAD  -- SBC A,D, 9A (R144)
  | sbcAE  -- SBC A,E, 9B (R144)
  | sbcAH  -- SBC A,H, 9C (R144)
  | sbcAL  -- SBC A,L, 9D (R144)
  | sbcAAtHl  -- SBC A,(HL), 9E (R144)
  | sbcAA  -- SBC A,A, 9F (R144)
  | andB  -- AND B, A0 (R145)
  | andC  -- AND C, A1 (R145)
  | andD  -- AND D, A2 (R145)
  | andE  -- AND E, A3 (R145)
  | andH  -- AND H, A4 (R145)
  | andL  -- AND L, A5 (R145)
  | andAtHl  -- AND (HL), A6 (R145)
  | andA  -- AND A, A7 (R145)
  | xorB  -- XOR B, A8 (R146)
  | xorC  -- XOR C, A9 (R146)
  | xorD  -- XOR D, AA (R146)
  | xorE  -- XOR E, AB (R146)
  | xorH  -- XOR H, AC (R146)
  | xorL  -- XOR L, AD (R146)
  | xorAtHl  -- XOR (HL), AE (R146)
  | xorA  -- XOR A, AF (R146)
  | orB  -- OR B, B0 (R147)
  | orC  -- OR C, B1 (R147)
  | orD  -- OR D, B2 (R147)
  | orE  -- OR E, B3 (R147)
  | orH  -- OR H, B4 (R147)
  | orL  -- OR L, B5 (R147)
  | orAtHl  -- OR (HL), B6 (R147)
  | orA  -- OR A, B7 (R147)
  | cpB  -- CP B, B8 (R148)
  | cpC  -- CP C, B9 (R148)
  | cpD  -- CP D, BA (R148)
  | cpE  -- CP E, BB (R148)
  | cpH  -- CP H, BC (R148)
  | cpL  -- CP L, BD (R148)
  | cpAtHl  -- CP (HL), BE (R148)
  | cpA  -- CP A, BF (R148)
  | retNz  -- RET NZ, C0 (R182)
  | popBc  -- POP BC, C1 (R172)
  | pushBc  -- PUSH BC, C5 (R171)
  | rst00  -- RST $00, C7 (R184)
  | retZ  -- RET Z, C8 (R182)
  | ret  -- RET, C9 (R181)
  | prefixCb  -- PREFIX CB, CB (R55)
  | rst08  -- RST $08, CF (R184)
  | retNc  -- RET NC, D0 (R182)
  | popDe  -- POP DE, D1 (R172)
  | illegalD3  -- ILLEGAL_D3, D3 (R231)
  | pushDe  -- PUSH DE, D5 (R171)
  | rst10  -- RST $10, D7 (R184)
  | retC  -- RET C, D8 (R182)
  | reti  -- RETI, D9 (R183)
  | illegalDB  -- ILLEGAL_DB, DB (R231)
  | illegalDD  -- ILLEGAL_DD, DD (R231)
  | rst18  -- RST $18, DF (R184)
  | popHl  -- POP HL, E1 (R172)
  | ldhAtCA  -- LDH (C),A, E2 (R126)
  | illegalE3  -- ILLEGAL_E3, E3 (R231)
  | illegalE4  -- ILLEGAL_E4, E4 (R231)
  | pushHl  -- PUSH HL, E5 (R171)
  | rst20  -- RST $20, E7 (R184)
  | jpHl  -- JP HL, E9 (R176)
  | illegalEB  -- ILLEGAL_EB, EB (R231)
  | illegalEC  -- ILLEGAL_EC, EC (R231)
  | illegalED  -- ILLEGAL_ED, ED (R231)
  | rst28  -- RST $28, EF (R184)
  | popAf  -- POP AF, F1 (R172)
  | ldhAAtC  -- LDH A,(C), F2 (R127)
  | di  -- DI, F3 (R210)
  | illegalF4  -- ILLEGAL_F4, F4 (R231)
  | pushAf  -- PUSH AF, F5 (R171)
  | rst30  -- RST $30, F7 (R184)
  | ldSpHl  -- LD SP,HL, F9 (R130)
  | ei  -- EI, FB (R211)
  | illegalFC  -- ILLEGAL_FC, FC (R231)
  | illegalFD  -- ILLEGAL_FD, FD (R231)
  | rst38  -- RST $38, FF (R184)
  | rlcB  -- RLC B, CB 00 (R261)
  | rlcC  -- RLC C, CB 01 (R261)
  | rlcD  -- RLC D, CB 02 (R261)
  | rlcE  -- RLC E, CB 03 (R261)
  | rlcH  -- RLC H, CB 04 (R261)
  | rlcL  -- RLC L, CB 05 (R261)
  | rlcAtHl  -- RLC (HL), CB 06 (R261)
  | rlcA  -- RLC A, CB 07 (R261)
  | rrcB  -- RRC B, CB 08 (R262)
  | rrcC  -- RRC C, CB 09 (R262)
  | rrcD  -- RRC D, CB 0A (R262)
  | rrcE  -- RRC E, CB 0B (R262)
  | rrcH  -- RRC H, CB 0C (R262)
  | rrcL  -- RRC L, CB 0D (R262)
  | rrcAtHl  -- RRC (HL), CB 0E (R262)
  | rrcA  -- RRC A, CB 0F (R262)
  | rlB  -- RL B, CB 10 (R263)
  | rlC  -- RL C, CB 11 (R263)
  | rlD  -- RL D, CB 12 (R263)
  | rlE  -- RL E, CB 13 (R263)
  | rlH  -- RL H, CB 14 (R263)
  | rlL  -- RL L, CB 15 (R263)
  | rlAtHl  -- RL (HL), CB 16 (R263)
  | rlA  -- RL A, CB 17 (R263)
  | rrB  -- RR B, CB 18 (R264)
  | rrC  -- RR C, CB 19 (R264)
  | rrD  -- RR D, CB 1A (R264)
  | rrE  -- RR E, CB 1B (R264)
  | rrH  -- RR H, CB 1C (R264)
  | rrL  -- RR L, CB 1D (R264)
  | rrAtHl  -- RR (HL), CB 1E (R264)
  | rrA  -- RR A, CB 1F (R264)
  | slaB  -- SLA B, CB 20 (R265)
  | slaC  -- SLA C, CB 21 (R265)
  | slaD  -- SLA D, CB 22 (R265)
  | slaE  -- SLA E, CB 23 (R265)
  | slaH  -- SLA H, CB 24 (R265)
  | slaL  -- SLA L, CB 25 (R265)
  | slaAtHl  -- SLA (HL), CB 26 (R265)
  | slaA  -- SLA A, CB 27 (R265)
  | sraB  -- SRA B, CB 28 (R266)
  | sraC  -- SRA C, CB 29 (R266)
  | sraD  -- SRA D, CB 2A (R266)
  | sraE  -- SRA E, CB 2B (R266)
  | sraH  -- SRA H, CB 2C (R266)
  | sraL  -- SRA L, CB 2D (R266)
  | sraAtHl  -- SRA (HL), CB 2E (R266)
  | sraA  -- SRA A, CB 2F (R266)
  | swapB  -- SWAP B, CB 30 (R267)
  | swapC  -- SWAP C, CB 31 (R267)
  | swapD  -- SWAP D, CB 32 (R267)
  | swapE  -- SWAP E, CB 33 (R267)
  | swapH  -- SWAP H, CB 34 (R267)
  | swapL  -- SWAP L, CB 35 (R267)
  | swapAtHl  -- SWAP (HL), CB 36 (R267)
  | swapA  -- SWAP A, CB 37 (R267)
  | srlB  -- SRL B, CB 38 (R268)
  | srlC  -- SRL C, CB 39 (R268)
  | srlD  -- SRL D, CB 3A (R268)
  | srlE  -- SRL E, CB 3B (R268)
  | srlH  -- SRL H, CB 3C (R268)
  | srlL  -- SRL L, CB 3D (R268)
  | srlAtHl  -- SRL (HL), CB 3E (R268)
  | srlA  -- SRL A, CB 3F (R268)
  | bit0B  -- BIT 0,B, CB 40 (R269)
  | bit0C  -- BIT 0,C, CB 41 (R269)
  | bit0D  -- BIT 0,D, CB 42 (R269)
  | bit0E  -- BIT 0,E, CB 43 (R269)
  | bit0H  -- BIT 0,H, CB 44 (R269)
  | bit0L  -- BIT 0,L, CB 45 (R269)
  | bit0AtHl  -- BIT 0,(HL), CB 46 (R269)
  | bit0A  -- BIT 0,A, CB 47 (R269)
  | bit1B  -- BIT 1,B, CB 48 (R269)
  | bit1C  -- BIT 1,C, CB 49 (R269)
  | bit1D  -- BIT 1,D, CB 4A (R269)
  | bit1E  -- BIT 1,E, CB 4B (R269)
  | bit1H  -- BIT 1,H, CB 4C (R269)
  | bit1L  -- BIT 1,L, CB 4D (R269)
  | bit1AtHl  -- BIT 1,(HL), CB 4E (R269)
  | bit1A  -- BIT 1,A, CB 4F (R269)
  | bit2B  -- BIT 2,B, CB 50 (R269)
  | bit2C  -- BIT 2,C, CB 51 (R269)
  | bit2D  -- BIT 2,D, CB 52 (R269)
  | bit2E  -- BIT 2,E, CB 53 (R269)
  | bit2H  -- BIT 2,H, CB 54 (R269)
  | bit2L  -- BIT 2,L, CB 55 (R269)
  | bit2AtHl  -- BIT 2,(HL), CB 56 (R269)
  | bit2A  -- BIT 2,A, CB 57 (R269)
  | bit3B  -- BIT 3,B, CB 58 (R269)
  | bit3C  -- BIT 3,C, CB 59 (R269)
  | bit3D  -- BIT 3,D, CB 5A (R269)
  | bit3E  -- BIT 3,E, CB 5B (R269)
  | bit3H  -- BIT 3,H, CB 5C (R269)
  | bit3L  -- BIT 3,L, CB 5D (R269)
  | bit3AtHl  -- BIT 3,(HL), CB 5E (R269)
  | bit3A  -- BIT 3,A, CB 5F (R269)
  | bit4B  -- BIT 4,B, CB 60 (R269)
  | bit4C  -- BIT 4,C, CB 61 (R269)
  | bit4D  -- BIT 4,D, CB 62 (R269)
  | bit4E  -- BIT 4,E, CB 63 (R269)
  | bit4H  -- BIT 4,H, CB 64 (R269)
  | bit4L  -- BIT 4,L, CB 65 (R269)
  | bit4AtHl  -- BIT 4,(HL), CB 66 (R269)
  | bit4A  -- BIT 4,A, CB 67 (R269)
  | bit5B  -- BIT 5,B, CB 68 (R269)
  | bit5C  -- BIT 5,C, CB 69 (R269)
  | bit5D  -- BIT 5,D, CB 6A (R269)
  | bit5E  -- BIT 5,E, CB 6B (R269)
  | bit5H  -- BIT 5,H, CB 6C (R269)
  | bit5L  -- BIT 5,L, CB 6D (R269)
  | bit5AtHl  -- BIT 5,(HL), CB 6E (R269)
  | bit5A  -- BIT 5,A, CB 6F (R269)
  | bit6B  -- BIT 6,B, CB 70 (R269)
  | bit6C  -- BIT 6,C, CB 71 (R269)
  | bit6D  -- BIT 6,D, CB 72 (R269)
  | bit6E  -- BIT 6,E, CB 73 (R269)
  | bit6H  -- BIT 6,H, CB 74 (R269)
  | bit6L  -- BIT 6,L, CB 75 (R269)
  | bit6AtHl  -- BIT 6,(HL), CB 76 (R269)
  | bit6A  -- BIT 6,A, CB 77 (R269)
  | bit7B  -- BIT 7,B, CB 78 (R269)
  | bit7C  -- BIT 7,C, CB 79 (R269)
  | bit7D  -- BIT 7,D, CB 7A (R269)
  | bit7E  -- BIT 7,E, CB 7B (R269)
  | bit7H  -- BIT 7,H, CB 7C (R269)
  | bit7L  -- BIT 7,L, CB 7D (R269)
  | bit7AtHl  -- BIT 7,(HL), CB 7E (R269)
  | bit7A  -- BIT 7,A, CB 7F (R269)
  | res0B  -- RES 0,B, CB 80 (R270)
  | res0C  -- RES 0,C, CB 81 (R270)
  | res0D  -- RES 0,D, CB 82 (R270)
  | res0E  -- RES 0,E, CB 83 (R270)
  | res0H  -- RES 0,H, CB 84 (R270)
  | res0L  -- RES 0,L, CB 85 (R270)
  | res0AtHl  -- RES 0,(HL), CB 86 (R270)
  | res0A  -- RES 0,A, CB 87 (R270)
  | res1B  -- RES 1,B, CB 88 (R270)
  | res1C  -- RES 1,C, CB 89 (R270)
  | res1D  -- RES 1,D, CB 8A (R270)
  | res1E  -- RES 1,E, CB 8B (R270)
  | res1H  -- RES 1,H, CB 8C (R270)
  | res1L  -- RES 1,L, CB 8D (R270)
  | res1AtHl  -- RES 1,(HL), CB 8E (R270)
  | res1A  -- RES 1,A, CB 8F (R270)
  | res2B  -- RES 2,B, CB 90 (R270)
  | res2C  -- RES 2,C, CB 91 (R270)
  | res2D  -- RES 2,D, CB 92 (R270)
  | res2E  -- RES 2,E, CB 93 (R270)
  | res2H  -- RES 2,H, CB 94 (R270)
  | res2L  -- RES 2,L, CB 95 (R270)
  | res2AtHl  -- RES 2,(HL), CB 96 (R270)
  | res2A  -- RES 2,A, CB 97 (R270)
  | res3B  -- RES 3,B, CB 98 (R270)
  | res3C  -- RES 3,C, CB 99 (R270)
  | res3D  -- RES 3,D, CB 9A (R270)
  | res3E  -- RES 3,E, CB 9B (R270)
  | res3H  -- RES 3,H, CB 9C (R270)
  | res3L  -- RES 3,L, CB 9D (R270)
  | res3AtHl  -- RES 3,(HL), CB 9E (R270)
  | res3A  -- RES 3,A, CB 9F (R270)
  | res4B  -- RES 4,B, CB A0 (R270)
  | res4C  -- RES 4,C, CB A1 (R270)
  | res4D  -- RES 4,D, CB A2 (R270)
  | res4E  -- RES 4,E, CB A3 (R270)
  | res4H  -- RES 4,H, CB A4 (R270)
  | res4L  -- RES 4,L, CB A5 (R270)
  | res4AtHl  -- RES 4,(HL), CB A6 (R270)
  | res4A  -- RES 4,A, CB A7 (R270)
  | res5B  -- RES 5,B, CB A8 (R270)
  | res5C  -- RES 5,C, CB A9 (R270)
  | res5D  -- RES 5,D, CB AA (R270)
  | res5E  -- RES 5,E, CB AB (R270)
  | res5H  -- RES 5,H, CB AC (R270)
  | res5L  -- RES 5,L, CB AD (R270)
  | res5AtHl  -- RES 5,(HL), CB AE (R270)
  | res5A  -- RES 5,A, CB AF (R270)
  | res6B  -- RES 6,B, CB B0 (R270)
  | res6C  -- RES 6,C, CB B1 (R270)
  | res6D  -- RES 6,D, CB B2 (R270)
  | res6E  -- RES 6,E, CB B3 (R270)
  | res6H  -- RES 6,H, CB B4 (R270)
  | res6L  -- RES 6,L, CB B5 (R270)
  | res6AtHl  -- RES 6,(HL), CB B6 (R270)
  | res6A  -- RES 6,A, CB B7 (R270)
  | res7B  -- RES 7,B, CB B8 (R270)
  | res7C  -- RES 7,C, CB B9 (R270)
  | res7D  -- RES 7,D, CB BA (R270)
  | res7E  -- RES 7,E, CB BB (R270)
  | res7H  -- RES 7,H, CB BC (R270)
  | res7L  -- RES 7,L, CB BD (R270)
  | res7AtHl  -- RES 7,(HL), CB BE (R270)
  | res7A  -- RES 7,A, CB BF (R270)
  | set0B  -- SET 0,B, CB C0 (R271)
  | set0C  -- SET 0,C, CB C1 (R271)
  | set0D  -- SET 0,D, CB C2 (R271)
  | set0E  -- SET 0,E, CB C3 (R271)
  | set0H  -- SET 0,H, CB C4 (R271)
  | set0L  -- SET 0,L, CB C5 (R271)
  | set0AtHl  -- SET 0,(HL), CB C6 (R271)
  | set0A  -- SET 0,A, CB C7 (R271)
  | set1B  -- SET 1,B, CB C8 (R271)
  | set1C  -- SET 1,C, CB C9 (R271)
  | set1D  -- SET 1,D, CB CA (R271)
  | set1E  -- SET 1,E, CB CB (R271)
  | set1H  -- SET 1,H, CB CC (R271)
  | set1L  -- SET 1,L, CB CD (R271)
  | set1AtHl  -- SET 1,(HL), CB CE (R271)
  | set1A  -- SET 1,A, CB CF (R271)
  | set2B  -- SET 2,B, CB D0 (R271)
  | set2C  -- SET 2,C, CB D1 (R271)
  | set2D  -- SET 2,D, CB D2 (R271)
  | set2E  -- SET 2,E, CB D3 (R271)
  | set2H  -- SET 2,H, CB D4 (R271)
  | set2L  -- SET 2,L, CB D5 (R271)
  | set2AtHl  -- SET 2,(HL), CB D6 (R271)
  | set2A  -- SET 2,A, CB D7 (R271)
  | set3B  -- SET 3,B, CB D8 (R271)
  | set3C  -- SET 3,C, CB D9 (R271)
  | set3D  -- SET 3,D, CB DA (R271)
  | set3E  -- SET 3,E, CB DB (R271)
  | set3H  -- SET 3,H, CB DC (R271)
  | set3L  -- SET 3,L, CB DD (R271)
  | set3AtHl  -- SET 3,(HL), CB DE (R271)
  | set3A  -- SET 3,A, CB DF (R271)
  | set4B  -- SET 4,B, CB E0 (R271)
  | set4C  -- SET 4,C, CB E1 (R271)
  | set4D  -- SET 4,D, CB E2 (R271)
  | set4E  -- SET 4,E, CB E3 (R271)
  | set4H  -- SET 4,H, CB E4 (R271)
  | set4L  -- SET 4,L, CB E5 (R271)
  | set4AtHl  -- SET 4,(HL), CB E6 (R271)
  | set4A  -- SET 4,A, CB E7 (R271)
  | set5B  -- SET 5,B, CB E8 (R271)
  | set5C  -- SET 5,C, CB E9 (R271)
  | set5D  -- SET 5,D, CB EA (R271)
  | set5E  -- SET 5,E, CB EB (R271)
  | set5H  -- SET 5,H, CB EC (R271)
  | set5L  -- SET 5,L, CB ED (R271)
  | set5AtHl  -- SET 5,(HL), CB EE (R271)
  | set5A  -- SET 5,A, CB EF (R271)
  | set6B  -- SET 6,B, CB F0 (R271)
  | set6C  -- SET 6,C, CB F1 (R271)
  | set6D  -- SET 6,D, CB F2 (R271)
  | set6E  -- SET 6,E, CB F3 (R271)
  | set6H  -- SET 6,H, CB F4 (R271)
  | set6L  -- SET 6,L, CB F5 (R271)
  | set6AtHl  -- SET 6,(HL), CB F6 (R271)
  | set6A  -- SET 6,A, CB F7 (R271)
  | set7B  -- SET 7,B, CB F8 (R271)
  | set7C  -- SET 7,C, CB F9 (R271)
  | set7D  -- SET 7,D, CB FA (R271)
  | set7E  -- SET 7,E, CB FB (R271)
  | set7H  -- SET 7,H, CB FC (R271)
  | set7L  -- SET 7,L, CB FD (R271)
  | set7AtHl  -- SET 7,(HL), CB FE (R271)
  | set7A  -- SET 7,A, CB FF (R271)
  deriving DecidableEq, Repr

end Sys2Proof
end

