-- ==== Sys2Proof/WellFormed.lean ====
section
/-! DEFINITION. Which terms of `Instr` are whole instructions. Every operand of this machine uses all
the values of its width (R68), so the one check is that a term is not the bare prefix byte, which R55 and R74
make an instruction only together with the byte after it. -/

namespace Sys2Proof

/-- A whole instruction: anything but PREFIX CB alone ("The prefix and its second byte make one instruction", R55). -/
abbrev Instr.WellFormed (i : Instr) : Prop := i ≠ .prefixCb

end Sys2Proof
end

