-- ==== Sys2Proof/Decode.lean ====
section
/-! DEFINITION. From bytes to instructions and back. The decoder follows the field split of R61 to R72 and R74, and is
total (R79); the encoder is written from the opcode grids of R73 and R74. `Instr.mk...` names the table row that a
family's field values select. -/

namespace Sys2Proof

/-! ## Bytes of a word -/

/-- Bits 15..8 (R9). -/
def hiByte (w : Word16) : Byte := w.extractLsb' 8 8

/-- Bits 7..0 (R9). -/
def loByte (w : Word16) : Byte := w.extractLsb' 0 8

/-- `hi ++ lo` of R11. -/
def joinBytes (hi lo : Byte) : Word16 := hi ++ lo

/-! ## Rows selected by operand fields -/

/-- LD r,r' (R120). -/
def Instr.mkMove (dst src : Reg8) : Instr :=
  match dst, src with
  | .b, .b => .ldBB
  | .b, .c => .ldBC
  | .b, .d => .ldBD
  | .b, .e => .ldBE
  | .b, .h => .ldBH
  | .b, .l => .ldBL
  | .b, .a => .ldBA
  | .c, .b => .ldCB
  | .c, .c => .ldCC
  | .c, .d => .ldCD
  | .c, .e => .ldCE
  | .c, .h => .ldCH
  | .c, .l => .ldCL
  | .c, .a => .ldCA
  | .d, .b => .ldDB
  | .d, .c => .ldDC
  | .d, .d => .ldDD
  | .d, .e => .ldDE
  | .d, .h => .ldDH
  | .d, .l => .ldDL
  | .d, .a => .ldDA
  | .e, .b => .ldEB
  | .e, .c => .ldEC
  | .e, .d => .ldED
  | .e, .e => .ldEE
  | .e, .h => .ldEH
  | .e, .l => .ldEL
  | .e, .a => .ldEA
  | .h, .b => .ldHB
  | .h, .c => .ldHC
  | .h, .d => .ldHD
  | .h, .e => .ldHE
  | .h, .h => .ldHH
  | .h, .l => .ldHL
  | .h, .a => .ldHA
  | .l, .b => .ldLB
  | .l, .c => .ldLC
  | .l, .d => .ldLD
  | .l, .e => .ldLE
  | .l, .h => .ldLH
  | .l, .l => .ldLL
  | .l, .a => .ldLA
  | .a, .b => .ldAB
  | .a, .c => .ldAC
  | .a, .d => .ldAD
  | .a, .e => .ldAE
  | .a, .h => .ldAH
  | .a, .l => .ldAL
  | .a, .a => .ldAA

/-- LD r,n8 (R118). -/
def Instr.mkLoadImm (r : Reg8) (n8 : Byte) : Instr :=
  match r with
  | .b => .ldBN8 n8
  | .c => .ldCN8 n8
  | .d => .ldDN8 n8
  | .e => .ldEN8 n8
  | .h => .ldHN8 n8
  | .l => .ldLN8 n8
  | .a => .ldAN8 n8

/-- LD r,(HL) (R121). -/
def Instr.mkLoadAtHl (r : Reg8) : Instr :=
  match r with
  | .b => .ldBAtHl
  | .c => .ldCAtHl
  | .d => .ldDAtHl
  | .e => .ldEAtHl
  | .h => .ldHAtHl
  | .l => .ldLAtHl
  | .a => .ldAAtHl

/-- LD (HL),r (R122). -/
def Instr.mkStoreAtHl (r : Reg8) : Instr :=
  match r with
  | .b => .ldAtHlB
  | .c => .ldAtHlC
  | .d => .ldAtHlD
  | .e => .ldAtHlE
  | .h => .ldAtHlH
  | .l => .ldAtHlL
  | .a => .ldAtHlA

/-- LD rr,n16 (R111). -/
def Instr.mkLoadPair (p : Pair) (n16 : Word16) : Instr :=
  match p with
  | .bc => .ldBcN16 n16
  | .de => .ldDeN16 n16
  | .hl => .ldHlN16 n16
  | .sp => .ldSpN16 n16

/-- LD A,(m) and LDH A,(m) (R113, R116, R117, R125, R127, R129). -/
def Instr.mkLoadA (m : AddrMode) : Instr :=
  match m with
  | .atBc => .ldAAtBc
  | .atDe => .ldAAtDe
  | .atHlInc => .ldAAtHlInc
  | .atHlDec => .ldAAtHlDec
  | .atA16 a16 => .ldAAtA16 a16
  | .atA8 a8 => .ldhAAtA8 a8
  | .atC => .ldhAAtC

/-- LD (m),A and LDH (m),A (R112, R114, R115, R124, R126, R128). -/
def Instr.mkStoreA (m : AddrMode) : Instr :=
  match m with
  | .atBc => .ldAtBcA
  | .atDe => .ldAtDeA
  | .atHlInc => .ldAtHlIncA
  | .atHlDec => .ldAtHlDecA
  | .atA16 a16 => .ldAtA16A a16
  | .atA8 a8 => .ldhAtA8A a8
  | .atC => .ldhAtCA

/-- INC r and INC (HL) (R149, R150). -/
def Instr.mkInc (o : Operand8) : Instr :=
  match o with
  | .reg .b => .incB
  | .reg .c => .incC
  | .reg .d => .incD
  | .reg .e => .incE
  | .reg .h => .incH
  | .reg .l => .incL
  | .atHl => .incAtHl
  | .reg .a => .incA

/-- DEC r and DEC (HL) (R151, R152). -/
def Instr.mkDec (o : Operand8) : Instr :=
  match o with
  | .reg .b => .decB
  | .reg .c => .decC
  | .reg .d => .decD
  | .reg .e => .decE
  | .reg .h => .decH
  | .reg .l => .decL
  | .atHl => .decAtHl
  | .reg .a => .decA

/-- INC rr (R154). -/
def Instr.mkIncPair (p : Pair) : Instr :=
  match p with
  | .bc => .incBc
  | .de => .incDe
  | .hl => .incHl
  | .sp => .incSp

/-- DEC rr (R155). -/
def Instr.mkDecPair (p : Pair) : Instr :=
  match p with
  | .bc => .decBc
  | .de => .decDe
  | .hl => .decHl
  | .sp => .decSp

/-- ADD HL,rr (R153). -/
def Instr.mkAddHl (p : Pair) : Instr :=
  match p with
  | .bc => .addHlBc
  | .de => .addHlDe
  | .hl => .addHlHl
  | .sp => .addHlSp

/-- The 8-bit ALU instructions with each form of their source (R140 to R148). -/
def Instr.mkAlu (op : AluOp) (src : Source) : Instr :=
  match op, src with
  | .add, .reg .b => .addAB
  | .add, .reg .c => .addAC
  | .add, .reg .d => .addAD
  | .add, .reg .e => .addAE
  | .add, .reg .h => .addAH
  | .add, .reg .l => .addAL
  | .add, .atHl => .addAAtHl
  | .add, .reg .a => .addAA
  | .adc, .reg .b => .adcAB
  | .adc, .reg .c => .adcAC
  | .adc, .reg .d => .adcAD
  | .adc, .reg .e => .adcAE
  | .adc, .reg .h => .adcAH
  | .adc, .reg .l => .adcAL
  | .adc, .atHl => .adcAAtHl
  | .adc, .reg .a => .adcAA
  | .sub, .reg .b => .subB
  | .sub, .reg .c => .subC
  | .sub, .reg .d => .subD
  | .sub, .reg .e => .subE
  | .sub, .reg .h => .subH
  | .sub, .reg .l => .subL
  | .sub, .atHl => .subAtHl
  | .sub, .reg .a => .subA
  | .sbc, .reg .b => .sbcAB
  | .sbc, .reg .c => .sbcAC
  | .sbc, .reg .d => .sbcAD
  | .sbc, .reg .e => .sbcAE
  | .sbc, .reg .h => .sbcAH
  | .sbc, .reg .l => .sbcAL
  | .sbc, .atHl => .sbcAAtHl
  | .sbc, .reg .a => .sbcAA
  | .and, .reg .b => .andB
  | .and, .reg .c => .andC
  | .and, .reg .d => .andD
  | .and, .reg .e => .andE
  | .and, .reg .h => .andH
  | .and, .reg .l => .andL
  | .and, .atHl => .andAtHl
  | .and, .reg .a => .andA
  | .xor, .reg .b => .xorB
  | .xor, .reg .c => .xorC
  | .xor, .reg .d => .xorD
  | .xor, .reg .e => .xorE
  | .xor, .reg .h => .xorH
  | .xor, .reg .l => .xorL
  | .xor, .atHl => .xorAtHl
  | .xor, .reg .a => .xorA
  | .or, .reg .b => .orB
  | .or, .reg .c => .orC
  | .or, .reg .d => .orD
  | .or, .reg .e => .orE
  | .or, .reg .h => .orH
  | .or, .reg .l => .orL
  | .or, .atHl => .orAtHl
  | .or, .reg .a => .orA
  | .cp, .reg .b => .cpB
  | .cp, .reg .c => .cpC
  | .cp, .reg .d => .cpD
  | .cp, .reg .e => .cpE
  | .cp, .reg .h => .cpH
  | .cp, .reg .l => .cpL
  | .cp, .atHl => .cpAtHl
  | .cp, .reg .a => .cpA
  | .add, .imm n8 => .addAN8 n8
  | .adc, .imm n8 => .adcAN8 n8
  | .sub, .imm n8 => .subN8 n8
  | .sbc, .imm n8 => .sbcAN8 n8
  | .and, .imm n8 => .andN8 n8
  | .xor, .imm n8 => .xorN8 n8
  | .or, .imm n8 => .orN8 n8
  | .cp, .imm n8 => .cpN8 n8

/-- PUSH rr2 (R171). -/
def Instr.mkPush (q : StackPair) : Instr :=
  match q with
  | .bc => .pushBc
  | .de => .pushDe
  | .hl => .pushHl
  | .af => .pushAf

/-- POP rr2 (R172). -/
def Instr.mkPop (q : StackPair) : Instr :=
  match q with
  | .bc => .popBc
  | .de => .popDe
  | .hl => .popHl
  | .af => .popAf

/-- JR cc,e8 (R178). -/
def Instr.mkJumpRel (cc : Cond) (e8 : Byte) : Instr :=
  match cc with
  | .nz => .jrNzE8 e8
  | .z => .jrZE8 e8
  | .nc => .jrNcE8 e8
  | .c => .jrCE8 e8

/-- JP cc,a16 (R175). -/
def Instr.mkJump (cc : Cond) (a16 : Word16) : Instr :=
  match cc with
  | .nz => .jpNzA16 a16
  | .z => .jpZA16 a16
  | .nc => .jpNcA16 a16
  | .c => .jpCA16 a16

/-- CALL cc,a16 (R180). -/
def Instr.mkCall (cc : Cond) (a16 : Word16) : Instr :=
  match cc with
  | .nz => .callNzA16 a16
  | .z => .callZA16 a16
  | .nc => .callNcA16 a16
  | .c => .callCA16 a16

/-- RET cc (R182). -/
def Instr.mkRet (cc : Cond) : Instr :=
  match cc with
  | .nz => .retNz
  | .z => .retZ
  | .nc => .retNc
  | .c => .retC

/-- RST y*8 (R184). -/
def Instr.mkRst (y : BitVec 3) : Instr :=
  match y with
  | 0#3 => .rst00
  | 1#3 => .rst08
  | 2#3 => .rst10
  | 3#3 => .rst18
  | 4#3 => .rst20
  | 5#3 => .rst28
  | 6#3 => .rst30
  | _ => .rst38

/-- The CB rotates and shifts (R261 to R268). -/
def Instr.mkRot (op : RotOp) (o : Operand8) : Instr :=
  match op, o with
  | .rlc, .reg .b => .rlcB
  | .rlc, .reg .c => .rlcC
  | .rlc, .reg .d => .rlcD
  | .rlc, .reg .e => .rlcE
  | .rlc, .reg .h => .rlcH
  | .rlc, .reg .l => .rlcL
  | .rlc, .atHl => .rlcAtHl
  | .rlc, .reg .a => .rlcA
  | .rrc, .reg .b => .rrcB
  | .rrc, .reg .c => .rrcC
  | .rrc, .reg .d => .rrcD
  | .rrc, .reg .e => .rrcE
  | .rrc, .reg .h => .rrcH
  | .rrc, .reg .l => .rrcL
  | .rrc, .atHl => .rrcAtHl
  | .rrc, .reg .a => .rrcA
  | .rl, .reg .b => .rlB
  | .rl, .reg .c => .rlC
  | .rl, .reg .d => .rlD
  | .rl, .reg .e => .rlE
  | .rl, .reg .h => .rlH
  | .rl, .reg .l => .rlL
  | .rl, .atHl => .rlAtHl
  | .rl, .reg .a => .rlA
  | .rr, .reg .b => .rrB
  | .rr, .reg .c => .rrC
  | .rr, .reg .d => .rrD
  | .rr, .reg .e => .rrE
  | .rr, .reg .h => .rrH
  | .rr, .reg .l => .rrL
  | .rr, .atHl => .rrAtHl
  | .rr, .reg .a => .rrA
  | .sla, .reg .b => .slaB
  | .sla, .reg .c => .slaC
  | .sla, .reg .d => .slaD
  | .sla, .reg .e => .slaE
  | .sla, .reg .h => .slaH
  | .sla, .reg .l => .slaL
  | .sla, .atHl => .slaAtHl
  | .sla, .reg .a => .slaA
  | .sra, .reg .b => .sraB
  | .sra, .reg .c => .sraC
  | .sra, .reg .d => .sraD
  | .sra, .reg .e => .sraE
  | .sra, .reg .h => .sraH
  | .sra, .reg .l => .sraL
  | .sra, .atHl => .sraAtHl
  | .sra, .reg .a => .sraA
  | .swap, .reg .b => .swapB
  | .swap, .reg .c => .swapC
  | .swap, .reg .d => .swapD
  | .swap, .reg .e => .swapE
  | .swap, .reg .h => .swapH
  | .swap, .reg .l => .swapL
  | .swap, .atHl => .swapAtHl
  | .swap, .reg .a => .swapA
  | .srl, .reg .b => .srlB
  | .srl, .reg .c => .srlC
  | .srl, .reg .d => .srlD
  | .srl, .reg .e => .srlE
  | .srl, .reg .h => .srlH
  | .srl, .reg .l => .srlL
  | .srl, .atHl => .srlAtHl
  | .srl, .reg .a => .srlA

/-- BIT b,r (R269). -/
def Instr.mkBit (y : BitVec 3) (o : Operand8) : Instr :=
  match y with
  | 0#3 => match o with
    | .reg .b => .bit0B
    | .reg .c => .bit0C
    | .reg .d => .bit0D
    | .reg .e => .bit0E
    | .reg .h => .bit0H
    | .reg .l => .bit0L
    | .atHl => .bit0AtHl
    | .reg .a => .bit0A
  | 1#3 => match o with
    | .reg .b => .bit1B
    | .reg .c => .bit1C
    | .reg .d => .bit1D
    | .reg .e => .bit1E
    | .reg .h => .bit1H
    | .reg .l => .bit1L
    | .atHl => .bit1AtHl
    | .reg .a => .bit1A
  | 2#3 => match o with
    | .reg .b => .bit2B
    | .reg .c => .bit2C
    | .reg .d => .bit2D
    | .reg .e => .bit2E
    | .reg .h => .bit2H
    | .reg .l => .bit2L
    | .atHl => .bit2AtHl
    | .reg .a => .bit2A
  | 3#3 => match o with
    | .reg .b => .bit3B
    | .reg .c => .bit3C
    | .reg .d => .bit3D
    | .reg .e => .bit3E
    | .reg .h => .bit3H
    | .reg .l => .bit3L
    | .atHl => .bit3AtHl
    | .reg .a => .bit3A
  | 4#3 => match o with
    | .reg .b => .bit4B
    | .reg .c => .bit4C
    | .reg .d => .bit4D
    | .reg .e => .bit4E
    | .reg .h => .bit4H
    | .reg .l => .bit4L
    | .atHl => .bit4AtHl
    | .reg .a => .bit4A
  | 5#3 => match o with
    | .reg .b => .bit5B
    | .reg .c => .bit5C
    | .reg .d => .bit5D
    | .reg .e => .bit5E
    | .reg .h => .bit5H
    | .reg .l => .bit5L
    | .atHl => .bit5AtHl
    | .reg .a => .bit5A
  | 6#3 => match o with
    | .reg .b => .bit6B
    | .reg .c => .bit6C
    | .reg .d => .bit6D
    | .reg .e => .bit6E
    | .reg .h => .bit6H
    | .reg .l => .bit6L
    | .atHl => .bit6AtHl
    | .reg .a => .bit6A
  | _ => match o with
    | .reg .b => .bit7B
    | .reg .c => .bit7C
    | .reg .d => .bit7D
    | .reg .e => .bit7E
    | .reg .h => .bit7H
    | .reg .l => .bit7L
    | .atHl => .bit7AtHl
    | .reg .a => .bit7A

/-- RES b,r (R270). -/
def Instr.mkRes (y : BitVec 3) (o : Operand8) : Instr :=
  match y with
  | 0#3 => match o with
    | .reg .b => .res0B
    | .reg .c => .res0C
    | .reg .d => .res0D
    | .reg .e => .res0E
    | .reg .h => .res0H
    | .reg .l => .res0L
    | .atHl => .res0AtHl
    | .reg .a => .res0A
  | 1#3 => match o with
    | .reg .b => .res1B
    | .reg .c => .res1C
    | .reg .d => .res1D
    | .reg .e => .res1E
    | .reg .h => .res1H
    | .reg .l => .res1L
    | .atHl => .res1AtHl
    | .reg .a => .res1A
  | 2#3 => match o with
    | .reg .b => .res2B
    | .reg .c => .res2C
    | .reg .d => .res2D
    | .reg .e => .res2E
    | .reg .h => .res2H
    | .reg .l => .res2L
    | .atHl => .res2AtHl
    | .reg .a => .res2A
  | 3#3 => match o with
    | .reg .b => .res3B
    | .reg .c => .res3C
    | .reg .d => .res3D
    | .reg .e => .res3E
    | .reg .h => .res3H
    | .reg .l => .res3L
    | .atHl => .res3AtHl
    | .reg .a => .res3A
  | 4#3 => match o with
    | .reg .b => .res4B
    | .reg .c => .res4C
    | .reg .d => .res4D
    | .reg .e => .res4E
    | .reg .h => .res4H
    | .reg .l => .res4L
    | .atHl => .res4AtHl
    | .reg .a => .res4A
  | 5#3 => match o with
    | .reg .b => .res5B
    | .reg .c => .res5C
    | .reg .d => .res5D
    | .reg .e => .res5E
    | .reg .h => .res5H
    | .reg .l => .res5L
    | .atHl => .res5AtHl
    | .reg .a => .res5A
  | 6#3 => match o with
    | .reg .b => .res6B
    | .reg .c => .res6C
    | .reg .d => .res6D
    | .reg .e => .res6E
    | .reg .h => .res6H
    | .reg .l => .res6L
    | .atHl => .res6AtHl
    | .reg .a => .res6A
  | _ => match o with
    | .reg .b => .res7B
    | .reg .c => .res7C
    | .reg .d => .res7D
    | .reg .e => .res7E
    | .reg .h => .res7H
    | .reg .l => .res7L
    | .atHl => .res7AtHl
    | .reg .a => .res7A

/-- SET b,r (R271). -/
def Instr.mkSet (y : BitVec 3) (o : Operand8) : Instr :=
  match y with
  | 0#3 => match o with
    | .reg .b => .set0B
    | .reg .c => .set0C
    | .reg .d => .set0D
    | .reg .e => .set0E
    | .reg .h => .set0H
    | .reg .l => .set0L
    | .atHl => .set0AtHl
    | .reg .a => .set0A
  | 1#3 => match o with
    | .reg .b => .set1B
    | .reg .c => .set1C
    | .reg .d => .set1D
    | .reg .e => .set1E
    | .reg .h => .set1H
    | .reg .l => .set1L
    | .atHl => .set1AtHl
    | .reg .a => .set1A
  | 2#3 => match o with
    | .reg .b => .set2B
    | .reg .c => .set2C
    | .reg .d => .set2D
    | .reg .e => .set2E
    | .reg .h => .set2H
    | .reg .l => .set2L
    | .atHl => .set2AtHl
    | .reg .a => .set2A
  | 3#3 => match o with
    | .reg .b => .set3B
    | .reg .c => .set3C
    | .reg .d => .set3D
    | .reg .e => .set3E
    | .reg .h => .set3H
    | .reg .l => .set3L
    | .atHl => .set3AtHl
    | .reg .a => .set3A
  | 4#3 => match o with
    | .reg .b => .set4B
    | .reg .c => .set4C
    | .reg .d => .set4D
    | .reg .e => .set4E
    | .reg .h => .set4H
    | .reg .l => .set4L
    | .atHl => .set4AtHl
    | .reg .a => .set4A
  | 5#3 => match o with
    | .reg .b => .set5B
    | .reg .c => .set5C
    | .reg .d => .set5D
    | .reg .e => .set5E
    | .reg .h => .set5H
    | .reg .l => .set5L
    | .atHl => .set5AtHl
    | .reg .a => .set5A
  | 6#3 => match o with
    | .reg .b => .set6B
    | .reg .c => .set6C
    | .reg .d => .set6D
    | .reg .e => .set6E
    | .reg .h => .set6H
    | .reg .l => .set6L
    | .atHl => .set6AtHl
    | .reg .a => .set6A
  | _ => match o with
    | .reg .b => .set7B
    | .reg .c => .set7C
    | .reg .d => .set7D
    | .reg .e => .set7E
    | .reg .h => .set7H
    | .reg .l => .set7L
    | .atHl => .set7AtHl
    | .reg .a => .set7A

/-! ## Operand fields of an opcode byte -/

/-- op[7:6] (R61). -/
def fieldX (op : Byte) : BitVec 2 := op.extractLsb' 6 2

/-- op[5:3] (R61). -/
def fieldY (op : Byte) : BitVec 3 := op.extractLsb' 3 3

/-- op[2:0] (R61). -/
def fieldZ (op : Byte) : BitVec 3 := op.extractLsb' 0 3

/-- op[5:4] (R61). -/
def fieldP (op : Byte) : BitVec 2 := op.extractLsb' 4 2

/-- op[3] (R61). -/
def fieldQ (op : Byte) : Bool := op.getLsbD 3

/-- The register field (R62). -/
def operandField (c : BitVec 3) : Operand8 :=
  match c with
  | 0#3 => .reg .b
  | 1#3 => .reg .c
  | 2#3 => .reg .d
  | 3#3 => .reg .e
  | 4#3 => .reg .h
  | 5#3 => .reg .l
  | 6#3 => .atHl
  | _ => .reg .a

/-- The pair field rr (R63). -/
def pairField (p : BitVec 2) : Pair :=
  match p with
  | 0#2 => .bc
  | 1#2 => .de
  | 2#2 => .hl
  | _ => .sp

/-- The pair field rr2 (R64). -/
def stackPairField (p : BitVec 2) : StackPair :=
  match p with
  | 0#2 => .bc
  | 1#2 => .de
  | 2#2 => .hl
  | _ => .af

/-- The condition field, from y[1:0] (R65). -/
def condField (y : BitVec 3) : Cond :=
  match y.extractLsb' 0 2 with
  | 0#2 => .nz
  | 1#2 => .z
  | 2#2 => .nc
  | _ => .c

/-- The ALU field (R66). -/
def aluField (y : BitVec 3) : AluOp :=
  match y with
  | 0#3 => .add
  | 1#3 => .adc
  | 2#3 => .sub
  | 3#3 => .sbc
  | 4#3 => .and
  | 5#3 => .xor
  | 6#3 => .or
  | _ => .cp

/-- The rotate field (R67). -/
def rotField (y : BitVec 3) : RotOp :=
  match y with
  | 0#3 => .rlc
  | 1#3 => .rrc
  | 2#3 => .rl
  | 3#3 => .rr
  | 4#3 => .sla
  | 5#3 => .sra
  | 6#3 => .swap
  | _ => .srl

/-- An operand of the field r as the source of an ALU instruction. -/
def Operand8.source (o : Operand8) : Source :=
  match o with
  | .reg r => .reg r
  | .atHl => .atHl

/-! ## The decoder -/

/-- The CB table (R74), on the byte after the prefix. -/
def decodeCb (op2 : Byte) : Instr :=
  match fieldX op2 with
  | 0#2 => Instr.mkRot (rotField (fieldY op2)) (operandField (fieldZ op2))
  | 1#2 => Instr.mkBit (fieldY op2) (operandField (fieldZ op2))
  | 2#2 => Instr.mkRes (fieldY op2) (operandField (fieldZ op2))
  | _ => Instr.mkSet (fieldY op2) (operandField (fieldZ op2))

/-- Block x = 0 (R69). -/
def decodeBlock0 (op n8 : Byte) (n16 : Word16) : Instr :=
  match fieldZ op with
  | 0#3 =>
    match fieldY op with
    | 0#3 => .nop
    | 1#3 => .ldAtA16Sp n16
    | 2#3 => .stop n8
    | 3#3 => .jrE8 n8
    | y => Instr.mkJumpRel (condField y) n8
  | 1#3 => if fieldQ op then Instr.mkAddHl (pairField (fieldP op)) else Instr.mkLoadPair (pairField (fieldP op)) n16
  | 2#3 =>
    let m : AddrMode :=
      match fieldP op with
      | 0#2 => .atBc
      | 1#2 => .atDe
      | 2#2 => .atHlInc
      | _ => .atHlDec
    if fieldQ op then Instr.mkLoadA m else Instr.mkStoreA m
  | 3#3 => if fieldQ op then Instr.mkDecPair (pairField (fieldP op)) else Instr.mkIncPair (pairField (fieldP op))
  | 4#3 => Instr.mkInc (operandField (fieldY op))
  | 5#3 => Instr.mkDec (operandField (fieldY op))
  | 6#3 =>
    match operandField (fieldY op) with
    | .reg r => Instr.mkLoadImm r n8
    | .atHl => .ldAtHlN8 n8
  | _ =>
    match fieldY op with
    | 0#3 => .rlca
    | 1#3 => .rrca
    | 2#3 => .rla
    | 3#3 => .rra
    | 4#3 => .daa
    | 5#3 => .cpl
    | 6#3 => .scf
    | _ => .ccf

/-- Block x = 1 (R70): the moves, with HALT in the place of LD (HL),(HL). -/
def decodeBlock1 (op : Byte) : Instr :=
  match operandField (fieldY op), operandField (fieldZ op) with
  | .reg dst, .reg src => Instr.mkMove dst src
  | .reg dst, .atHl => Instr.mkLoadAtHl dst
  | .atHl, .reg src => Instr.mkStoreAtHl src
  | .atHl, .atHl => .halt

/-- Block x = 2 (R71). -/
def decodeBlock2 (op : Byte) : Instr :=
  Instr.mkAlu (aluField (fieldY op)) (operandField (fieldZ op)).source

/-- Block x = 3 (R72), with the illegal bytes of R75 as the table's rows for them. -/
def decodeBlock3 (op n8 : Byte) (n16 : Word16) : Instr :=
  match fieldZ op with
  | 0#3 =>
    match fieldY op with
    | 4#3 => .ldhAtA8A n8
    | 5#3 => .addSpE8 n8
    | 6#3 => .ldhAAtA8 n8
    | 7#3 => .ldHlSpE8 n8
    | y => Instr.mkRet (condField y)
  | 1#3 =>
    if fieldQ op then
      match fieldP op with
      | 0#2 => .ret
      | 1#2 => .reti
      | 2#2 => .jpHl
      | _ => .ldSpHl
    else Instr.mkPop (stackPairField (fieldP op))
  | 2#3 =>
    match fieldY op with
    | 4#3 => .ldhAtCA
    | 5#3 => .ldAtA16A n16
    | 6#3 => .ldhAAtC
    | 7#3 => .ldAAtA16 n16
    | y => Instr.mkJump (condField y) n16
  | 3#3 =>
    match fieldY op with
    | 0#3 => .jpA16 n16
    | 1#3 => decodeCb n8
    | 2#3 => .illegalD3
    | 3#3 => .illegalDB
    | 4#3 => .illegalE3
    | 5#3 => .illegalEB
    | 6#3 => .di
    | _ => .ei
  | 4#3 =>
    match fieldY op with
    | 4#3 => .illegalE4
    | 5#3 => .illegalEC
    | 6#3 => .illegalF4
    | 7#3 => .illegalFC
    | y => Instr.mkCall (condField y) n16
  | 5#3 =>
    if fieldQ op then
      match fieldP op with
      | 0#2 => .callA16 n16
      | 1#2 => .illegalDD
      | 2#2 => .illegalED
      | _ => .illegalFD
    else Instr.mkPush (stackPairField (fieldP op))
  | 6#3 => Instr.mkAlu (aluField (fieldY op)) (.imm n8)
  | _ => Instr.mkRst (fieldY op)

/-- The row that three bytes of the instruction stream select (R77, R79). Total: an instruction shorter than three
bytes ignores the bytes after it. 16-bit immediates are little-endian (R51, R68). -/
def decodeWindow (b0 b1 b2 : Byte) : Instr :=
  match fieldX b0 with
  | 0#2 => decodeBlock0 b0 b1 (joinBytes b2 b1)
  | 1#2 => decodeBlock1 b0
  | 2#2 => decodeBlock2 b0
  | _ => decodeBlock3 b0 b1 (joinBytes b2 b1)

/-! ## The encoder -/

/-- The bytes of an instruction, in stream order (R60, R73, R74). -/
def Instr.encode (i : Instr) : List Byte :=
  match i with
  | .ldBcN16 n16 => [0x01#8, loByte n16, hiByte n16]
  | .ldBN8 n8 => [0x06#8, n8]
  | .ldAtA16Sp a16 => [0x08#8, loByte a16, hiByte a16]
  | .ldCN8 n8 => [0x0E#8, n8]
  | .stop n8 => [0x10#8, n8]
  | .ldDeN16 n16 => [0x11#8, loByte n16, hiByte n16]
  | .ldDN8 n8 => [0x16#8, n8]
  | .jrE8 e8 => [0x18#8, e8]
  | .ldEN8 n8 => [0x1E#8, n8]
  | .jrNzE8 e8 => [0x20#8, e8]
  | .ldHlN16 n16 => [0x21#8, loByte n16, hiByte n16]
  | .ldHN8 n8 => [0x26#8, n8]
  | .jrZE8 e8 => [0x28#8, e8]
  | .ldLN8 n8 => [0x2E#8, n8]
  | .jrNcE8 e8 => [0x30#8, e8]
  | .ldSpN16 n16 => [0x31#8, loByte n16, hiByte n16]
  | .ldAtHlN8 n8 => [0x36#8, n8]
  | .jrCE8 e8 => [0x38#8, e8]
  | .ldAN8 n8 => [0x3E#8, n8]
  | .jpNzA16 a16 => [0xC2#8, loByte a16, hiByte a16]
  | .jpA16 a16 => [0xC3#8, loByte a16, hiByte a16]
  | .callNzA16 a16 => [0xC4#8, loByte a16, hiByte a16]
  | .addAN8 n8 => [0xC6#8, n8]
  | .jpZA16 a16 => [0xCA#8, loByte a16, hiByte a16]
  | .callZA16 a16 => [0xCC#8, loByte a16, hiByte a16]
  | .callA16 a16 => [0xCD#8, loByte a16, hiByte a16]
  | .adcAN8 n8 => [0xCE#8, n8]
  | .jpNcA16 a16 => [0xD2#8, loByte a16, hiByte a16]
  | .callNcA16 a16 => [0xD4#8, loByte a16, hiByte a16]
  | .subN8 n8 => [0xD6#8, n8]
  | .jpCA16 a16 => [0xDA#8, loByte a16, hiByte a16]
  | .callCA16 a16 => [0xDC#8, loByte a16, hiByte a16]
  | .sbcAN8 n8 => [0xDE#8, n8]
  | .ldhAtA8A a8 => [0xE0#8, a8]
  | .andN8 n8 => [0xE6#8, n8]
  | .addSpE8 e8 => [0xE8#8, e8]
  | .ldAtA16A a16 => [0xEA#8, loByte a16, hiByte a16]
  | .xorN8 n8 => [0xEE#8, n8]
  | .ldhAAtA8 a8 => [0xF0#8, a8]
  | .orN8 n8 => [0xF6#8, n8]
  | .ldHlSpE8 e8 => [0xF8#8, e8]
  | .ldAAtA16 a16 => [0xFA#8, loByte a16, hiByte a16]
  | .cpN8 n8 => [0xFE#8, n8]
  | .nop => [0x00#8]
  | .ldAtBcA => [0x02#8]
  | .incBc => [0x03#8]
  | .incB => [0x04#8]
  | .decB => [0x05#8]
  | .rlca => [0x07#8]
  | .addHlBc => [0x09#8]
  | .ldAAtBc => [0x0A#8]
  | .decBc => [0x0B#8]
  | .incC => [0x0C#8]
  | .decC => [0x0D#8]
  | .rrca => [0x0F#8]
  | .ldAtDeA => [0x12#8]
  | .incDe => [0x13#8]
  | .incD => [0x14#8]
  | .decD => [0x15#8]
  | .rla => [0x17#8]
  | .addHlDe => [0x19#8]
  | .ldAAtDe => [0x1A#8]
  | .decDe => [0x1B#8]
  | .incE => [0x1C#8]
  | .decE => [0x1D#8]
  | .rra => [0x1F#8]
  | .ldAtHlIncA => [0x22#8]
  | .incHl => [0x23#8]
  | .incH => [0x24#8]
  | .decH => [0x25#8]
  | .daa => [0x27#8]
  | .addHlHl => [0x29#8]
  | .ldAAtHlInc => [0x2A#8]
  | .decHl => [0x2B#8]
  | .incL => [0x2C#8]
  | .decL => [0x2D#8]
  | .cpl => [0x2F#8]
  | .ldAtHlDecA => [0x32#8]
  | .incSp => [0x33#8]
  | .incAtHl => [0x34#8]
  | .decAtHl => [0x35#8]
  | .scf => [0x37#8]
  | .addHlSp => [0x39#8]
  | .ldAAtHlDec => [0x3A#8]
  | .decSp => [0x3B#8]
  | .incA => [0x3C#8]
  | .decA => [0x3D#8]
  | .ccf => [0x3F#8]
  | .ldBB => [0x40#8]
  | .ldBC => [0x41#8]
  | .ldBD => [0x42#8]
  | .ldBE => [0x43#8]
  | .ldBH => [0x44#8]
  | .ldBL => [0x45#8]
  | .ldBAtHl => [0x46#8]
  | .ldBA => [0x47#8]
  | .ldCB => [0x48#8]
  | .ldCC => [0x49#8]
  | .ldCD => [0x4A#8]
  | .ldCE => [0x4B#8]
  | .ldCH => [0x4C#8]
  | .ldCL => [0x4D#8]
  | .ldCAtHl => [0x4E#8]
  | .ldCA => [0x4F#8]
  | .ldDB => [0x50#8]
  | .ldDC => [0x51#8]
  | .ldDD => [0x52#8]
  | .ldDE => [0x53#8]
  | .ldDH => [0x54#8]
  | .ldDL => [0x55#8]
  | .ldDAtHl => [0x56#8]
  | .ldDA => [0x57#8]
  | .ldEB => [0x58#8]
  | .ldEC => [0x59#8]
  | .ldED => [0x5A#8]
  | .ldEE => [0x5B#8]
  | .ldEH => [0x5C#8]
  | .ldEL => [0x5D#8]
  | .ldEAtHl => [0x5E#8]
  | .ldEA => [0x5F#8]
  | .ldHB => [0x60#8]
  | .ldHC => [0x61#8]
  | .ldHD => [0x62#8]
  | .ldHE => [0x63#8]
  | .ldHH => [0x64#8]
  | .ldHL => [0x65#8]
  | .ldHAtHl => [0x66#8]
  | .ldHA => [0x67#8]
  | .ldLB => [0x68#8]
  | .ldLC => [0x69#8]
  | .ldLD => [0x6A#8]
  | .ldLE => [0x6B#8]
  | .ldLH => [0x6C#8]
  | .ldLL => [0x6D#8]
  | .ldLAtHl => [0x6E#8]
  | .ldLA => [0x6F#8]
  | .ldAtHlB => [0x70#8]
  | .ldAtHlC => [0x71#8]
  | .ldAtHlD => [0x72#8]
  | .ldAtHlE => [0x73#8]
  | .ldAtHlH => [0x74#8]
  | .ldAtHlL => [0x75#8]
  | .halt => [0x76#8]
  | .ldAtHlA => [0x77#8]
  | .ldAB => [0x78#8]
  | .ldAC => [0x79#8]
  | .ldAD => [0x7A#8]
  | .ldAE => [0x7B#8]
  | .ldAH => [0x7C#8]
  | .ldAL => [0x7D#8]
  | .ldAAtHl => [0x7E#8]
  | .ldAA => [0x7F#8]
  | .addAB => [0x80#8]
  | .addAC => [0x81#8]
  | .addAD => [0x82#8]
  | .addAE => [0x83#8]
  | .addAH => [0x84#8]
  | .addAL => [0x85#8]
  | .addAAtHl => [0x86#8]
  | .addAA => [0x87#8]
  | .adcAB => [0x88#8]
  | .adcAC => [0x89#8]
  | .adcAD => [0x8A#8]
  | .adcAE => [0x8B#8]
  | .adcAH => [0x8C#8]
  | .adcAL => [0x8D#8]
  | .adcAAtHl => [0x8E#8]
  | .adcAA => [0x8F#8]
  | .subB => [0x90#8]
  | .subC => [0x91#8]
  | .subD => [0x92#8]
  | .subE => [0x93#8]
  | .subH => [0x94#8]
  | .subL => [0x95#8]
  | .subAtHl => [0x96#8]
  | .subA => [0x97#8]
  | .sbcAB => [0x98#8]
  | .sbcAC => [0x99#8]
  | .sbcAD => [0x9A#8]
  | .sbcAE => [0x9B#8]
  | .sbcAH => [0x9C#8]
  | .sbcAL => [0x9D#8]
  | .sbcAAtHl => [0x9E#8]
  | .sbcAA => [0x9F#8]
  | .andB => [0xA0#8]
  | .andC => [0xA1#8]
  | .andD => [0xA2#8]
  | .andE => [0xA3#8]
  | .andH => [0xA4#8]
  | .andL => [0xA5#8]
  | .andAtHl => [0xA6#8]
  | .andA => [0xA7#8]
  | .xorB => [0xA8#8]
  | .xorC => [0xA9#8]
  | .xorD => [0xAA#8]
  | .xorE => [0xAB#8]
  | .xorH => [0xAC#8]
  | .xorL => [0xAD#8]
  | .xorAtHl => [0xAE#8]
  | .xorA => [0xAF#8]
  | .orB => [0xB0#8]
  | .orC => [0xB1#8]
  | .orD => [0xB2#8]
  | .orE => [0xB3#8]
  | .orH => [0xB4#8]
  | .orL => [0xB5#8]
  | .orAtHl => [0xB6#8]
  | .orA => [0xB7#8]
  | .cpB => [0xB8#8]
  | .cpC => [0xB9#8]
  | .cpD => [0xBA#8]
  | .cpE => [0xBB#8]
  | .cpH => [0xBC#8]
  | .cpL => [0xBD#8]
  | .cpAtHl => [0xBE#8]
  | .cpA => [0xBF#8]
  | .retNz => [0xC0#8]
  | .popBc => [0xC1#8]
  | .pushBc => [0xC5#8]
  | .rst00 => [0xC7#8]
  | .retZ => [0xC8#8]
  | .ret => [0xC9#8]
  | .prefixCb => [0xCB#8]
  | .rst08 => [0xCF#8]
  | .retNc => [0xD0#8]
  | .popDe => [0xD1#8]
  | .illegalD3 => [0xD3#8]
  | .pushDe => [0xD5#8]
  | .rst10 => [0xD7#8]
  | .retC => [0xD8#8]
  | .reti => [0xD9#8]
  | .illegalDB => [0xDB#8]
  | .illegalDD => [0xDD#8]
  | .rst18 => [0xDF#8]
  | .popHl => [0xE1#8]
  | .ldhAtCA => [0xE2#8]
  | .illegalE3 => [0xE3#8]
  | .illegalE4 => [0xE4#8]
  | .pushHl => [0xE5#8]
  | .rst20 => [0xE7#8]
  | .jpHl => [0xE9#8]
  | .illegalEB => [0xEB#8]
  | .illegalEC => [0xEC#8]
  | .illegalED => [0xED#8]
  | .rst28 => [0xEF#8]
  | .popAf => [0xF1#8]
  | .ldhAAtC => [0xF2#8]
  | .di => [0xF3#8]
  | .illegalF4 => [0xF4#8]
  | .pushAf => [0xF5#8]
  | .rst30 => [0xF7#8]
  | .ldSpHl => [0xF9#8]
  | .ei => [0xFB#8]
  | .illegalFC => [0xFC#8]
  | .illegalFD => [0xFD#8]
  | .rst38 => [0xFF#8]
  | .rlcB => [0xCB#8, 0x00#8]
  | .rlcC => [0xCB#8, 0x01#8]
  | .rlcD => [0xCB#8, 0x02#8]
  | .rlcE => [0xCB#8, 0x03#8]
  | .rlcH => [0xCB#8, 0x04#8]
  | .rlcL => [0xCB#8, 0x05#8]
  | .rlcAtHl => [0xCB#8, 0x06#8]
  | .rlcA => [0xCB#8, 0x07#8]
  | .rrcB => [0xCB#8, 0x08#8]
  | .rrcC => [0xCB#8, 0x09#8]
  | .rrcD => [0xCB#8, 0x0A#8]
  | .rrcE => [0xCB#8, 0x0B#8]
  | .rrcH => [0xCB#8, 0x0C#8]
  | .rrcL => [0xCB#8, 0x0D#8]
  | .rrcAtHl => [0xCB#8, 0x0E#8]
  | .rrcA => [0xCB#8, 0x0F#8]
  | .rlB => [0xCB#8, 0x10#8]
  | .rlC => [0xCB#8, 0x11#8]
  | .rlD => [0xCB#8, 0x12#8]
  | .rlE => [0xCB#8, 0x13#8]
  | .rlH => [0xCB#8, 0x14#8]
  | .rlL => [0xCB#8, 0x15#8]
  | .rlAtHl => [0xCB#8, 0x16#8]
  | .rlA => [0xCB#8, 0x17#8]
  | .rrB => [0xCB#8, 0x18#8]
  | .rrC => [0xCB#8, 0x19#8]
  | .rrD => [0xCB#8, 0x1A#8]
  | .rrE => [0xCB#8, 0x1B#8]
  | .rrH => [0xCB#8, 0x1C#8]
  | .rrL => [0xCB#8, 0x1D#8]
  | .rrAtHl => [0xCB#8, 0x1E#8]
  | .rrA => [0xCB#8, 0x1F#8]
  | .slaB => [0xCB#8, 0x20#8]
  | .slaC => [0xCB#8, 0x21#8]
  | .slaD => [0xCB#8, 0x22#8]
  | .slaE => [0xCB#8, 0x23#8]
  | .slaH => [0xCB#8, 0x24#8]
  | .slaL => [0xCB#8, 0x25#8]
  | .slaAtHl => [0xCB#8, 0x26#8]
  | .slaA => [0xCB#8, 0x27#8]
  | .sraB => [0xCB#8, 0x28#8]
  | .sraC => [0xCB#8, 0x29#8]
  | .sraD => [0xCB#8, 0x2A#8]
  | .sraE => [0xCB#8, 0x2B#8]
  | .sraH => [0xCB#8, 0x2C#8]
  | .sraL => [0xCB#8, 0x2D#8]
  | .sraAtHl => [0xCB#8, 0x2E#8]
  | .sraA => [0xCB#8, 0x2F#8]
  | .swapB => [0xCB#8, 0x30#8]
  | .swapC => [0xCB#8, 0x31#8]
  | .swapD => [0xCB#8, 0x32#8]
  | .swapE => [0xCB#8, 0x33#8]
  | .swapH => [0xCB#8, 0x34#8]
  | .swapL => [0xCB#8, 0x35#8]
  | .swapAtHl => [0xCB#8, 0x36#8]
  | .swapA => [0xCB#8, 0x37#8]
  | .srlB => [0xCB#8, 0x38#8]
  | .srlC => [0xCB#8, 0x39#8]
  | .srlD => [0xCB#8, 0x3A#8]
  | .srlE => [0xCB#8, 0x3B#8]
  | .srlH => [0xCB#8, 0x3C#8]
  | .srlL => [0xCB#8, 0x3D#8]
  | .srlAtHl => [0xCB#8, 0x3E#8]
  | .srlA => [0xCB#8, 0x3F#8]
  | .bit0B => [0xCB#8, 0x40#8]
  | .bit0C => [0xCB#8, 0x41#8]
  | .bit0D => [0xCB#8, 0x42#8]
  | .bit0E => [0xCB#8, 0x43#8]
  | .bit0H => [0xCB#8, 0x44#8]
  | .bit0L => [0xCB#8, 0x45#8]
  | .bit0AtHl => [0xCB#8, 0x46#8]
  | .bit0A => [0xCB#8, 0x47#8]
  | .bit1B => [0xCB#8, 0x48#8]
  | .bit1C => [0xCB#8, 0x49#8]
  | .bit1D => [0xCB#8, 0x4A#8]
  | .bit1E => [0xCB#8, 0x4B#8]
  | .bit1H => [0xCB#8, 0x4C#8]
  | .bit1L => [0xCB#8, 0x4D#8]
  | .bit1AtHl => [0xCB#8, 0x4E#8]
  | .bit1A => [0xCB#8, 0x4F#8]
  | .bit2B => [0xCB#8, 0x50#8]
  | .bit2C => [0xCB#8, 0x51#8]
  | .bit2D => [0xCB#8, 0x52#8]
  | .bit2E => [0xCB#8, 0x53#8]
  | .bit2H => [0xCB#8, 0x54#8]
  | .bit2L => [0xCB#8, 0x55#8]
  | .bit2AtHl => [0xCB#8, 0x56#8]
  | .bit2A => [0xCB#8, 0x57#8]
  | .bit3B => [0xCB#8, 0x58#8]
  | .bit3C => [0xCB#8, 0x59#8]
  | .bit3D => [0xCB#8, 0x5A#8]
  | .bit3E => [0xCB#8, 0x5B#8]
  | .bit3H => [0xCB#8, 0x5C#8]
  | .bit3L => [0xCB#8, 0x5D#8]
  | .bit3AtHl => [0xCB#8, 0x5E#8]
  | .bit3A => [0xCB#8, 0x5F#8]
  | .bit4B => [0xCB#8, 0x60#8]
  | .bit4C => [0xCB#8, 0x61#8]
  | .bit4D => [0xCB#8, 0x62#8]
  | .bit4E => [0xCB#8, 0x63#8]
  | .bit4H => [0xCB#8, 0x64#8]
  | .bit4L => [0xCB#8, 0x65#8]
  | .bit4AtHl => [0xCB#8, 0x66#8]
  | .bit4A => [0xCB#8, 0x67#8]
  | .bit5B => [0xCB#8, 0x68#8]
  | .bit5C => [0xCB#8, 0x69#8]
  | .bit5D => [0xCB#8, 0x6A#8]
  | .bit5E => [0xCB#8, 0x6B#8]
  | .bit5H => [0xCB#8, 0x6C#8]
  | .bit5L => [0xCB#8, 0x6D#8]
  | .bit5AtHl => [0xCB#8, 0x6E#8]
  | .bit5A => [0xCB#8, 0x6F#8]
  | .bit6B => [0xCB#8, 0x70#8]
  | .bit6C => [0xCB#8, 0x71#8]
  | .bit6D => [0xCB#8, 0x72#8]
  | .bit6E => [0xCB#8, 0x73#8]
  | .bit6H => [0xCB#8, 0x74#8]
  | .bit6L => [0xCB#8, 0x75#8]
  | .bit6AtHl => [0xCB#8, 0x76#8]
  | .bit6A => [0xCB#8, 0x77#8]
  | .bit7B => [0xCB#8, 0x78#8]
  | .bit7C => [0xCB#8, 0x79#8]
  | .bit7D => [0xCB#8, 0x7A#8]
  | .bit7E => [0xCB#8, 0x7B#8]
  | .bit7H => [0xCB#8, 0x7C#8]
  | .bit7L => [0xCB#8, 0x7D#8]
  | .bit7AtHl => [0xCB#8, 0x7E#8]
  | .bit7A => [0xCB#8, 0x7F#8]
  | .res0B => [0xCB#8, 0x80#8]
  | .res0C => [0xCB#8, 0x81#8]
  | .res0D => [0xCB#8, 0x82#8]
  | .res0E => [0xCB#8, 0x83#8]
  | .res0H => [0xCB#8, 0x84#8]
  | .res0L => [0xCB#8, 0x85#8]
  | .res0AtHl => [0xCB#8, 0x86#8]
  | .res0A => [0xCB#8, 0x87#8]
  | .res1B => [0xCB#8, 0x88#8]
  | .res1C => [0xCB#8, 0x89#8]
  | .res1D => [0xCB#8, 0x8A#8]
  | .res1E => [0xCB#8, 0x8B#8]
  | .res1H => [0xCB#8, 0x8C#8]
  | .res1L => [0xCB#8, 0x8D#8]
  | .res1AtHl => [0xCB#8, 0x8E#8]
  | .res1A => [0xCB#8, 0x8F#8]
  | .res2B => [0xCB#8, 0x90#8]
  | .res2C => [0xCB#8, 0x91#8]
  | .res2D => [0xCB#8, 0x92#8]
  | .res2E => [0xCB#8, 0x93#8]
  | .res2H => [0xCB#8, 0x94#8]
  | .res2L => [0xCB#8, 0x95#8]
  | .res2AtHl => [0xCB#8, 0x96#8]
  | .res2A => [0xCB#8, 0x97#8]
  | .res3B => [0xCB#8, 0x98#8]
  | .res3C => [0xCB#8, 0x99#8]
  | .res3D => [0xCB#8, 0x9A#8]
  | .res3E => [0xCB#8, 0x9B#8]
  | .res3H => [0xCB#8, 0x9C#8]
  | .res3L => [0xCB#8, 0x9D#8]
  | .res3AtHl => [0xCB#8, 0x9E#8]
  | .res3A => [0xCB#8, 0x9F#8]
  | .res4B => [0xCB#8, 0xA0#8]
  | .res4C => [0xCB#8, 0xA1#8]
  | .res4D => [0xCB#8, 0xA2#8]
  | .res4E => [0xCB#8, 0xA3#8]
  | .res4H => [0xCB#8, 0xA4#8]
  | .res4L => [0xCB#8, 0xA5#8]
  | .res4AtHl => [0xCB#8, 0xA6#8]
  | .res4A => [0xCB#8, 0xA7#8]
  | .res5B => [0xCB#8, 0xA8#8]
  | .res5C => [0xCB#8, 0xA9#8]
  | .res5D => [0xCB#8, 0xAA#8]
  | .res5E => [0xCB#8, 0xAB#8]
  | .res5H => [0xCB#8, 0xAC#8]
  | .res5L => [0xCB#8, 0xAD#8]
  | .res5AtHl => [0xCB#8, 0xAE#8]
  | .res5A => [0xCB#8, 0xAF#8]
  | .res6B => [0xCB#8, 0xB0#8]
  | .res6C => [0xCB#8, 0xB1#8]
  | .res6D => [0xCB#8, 0xB2#8]
  | .res6E => [0xCB#8, 0xB3#8]
  | .res6H => [0xCB#8, 0xB4#8]
  | .res6L => [0xCB#8, 0xB5#8]
  | .res6AtHl => [0xCB#8, 0xB6#8]
  | .res6A => [0xCB#8, 0xB7#8]
  | .res7B => [0xCB#8, 0xB8#8]
  | .res7C => [0xCB#8, 0xB9#8]
  | .res7D => [0xCB#8, 0xBA#8]
  | .res7E => [0xCB#8, 0xBB#8]
  | .res7H => [0xCB#8, 0xBC#8]
  | .res7L => [0xCB#8, 0xBD#8]
  | .res7AtHl => [0xCB#8, 0xBE#8]
  | .res7A => [0xCB#8, 0xBF#8]
  | .set0B => [0xCB#8, 0xC0#8]
  | .set0C => [0xCB#8, 0xC1#8]
  | .set0D => [0xCB#8, 0xC2#8]
  | .set0E => [0xCB#8, 0xC3#8]
  | .set0H => [0xCB#8, 0xC4#8]
  | .set0L => [0xCB#8, 0xC5#8]
  | .set0AtHl => [0xCB#8, 0xC6#8]
  | .set0A => [0xCB#8, 0xC7#8]
  | .set1B => [0xCB#8, 0xC8#8]
  | .set1C => [0xCB#8, 0xC9#8]
  | .set1D => [0xCB#8, 0xCA#8]
  | .set1E => [0xCB#8, 0xCB#8]
  | .set1H => [0xCB#8, 0xCC#8]
  | .set1L => [0xCB#8, 0xCD#8]
  | .set1AtHl => [0xCB#8, 0xCE#8]
  | .set1A => [0xCB#8, 0xCF#8]
  | .set2B => [0xCB#8, 0xD0#8]
  | .set2C => [0xCB#8, 0xD1#8]
  | .set2D => [0xCB#8, 0xD2#8]
  | .set2E => [0xCB#8, 0xD3#8]
  | .set2H => [0xCB#8, 0xD4#8]
  | .set2L => [0xCB#8, 0xD5#8]
  | .set2AtHl => [0xCB#8, 0xD6#8]
  | .set2A => [0xCB#8, 0xD7#8]
  | .set3B => [0xCB#8, 0xD8#8]
  | .set3C => [0xCB#8, 0xD9#8]
  | .set3D => [0xCB#8, 0xDA#8]
  | .set3E => [0xCB#8, 0xDB#8]
  | .set3H => [0xCB#8, 0xDC#8]
  | .set3L => [0xCB#8, 0xDD#8]
  | .set3AtHl => [0xCB#8, 0xDE#8]
  | .set3A => [0xCB#8, 0xDF#8]
  | .set4B => [0xCB#8, 0xE0#8]
  | .set4C => [0xCB#8, 0xE1#8]
  | .set4D => [0xCB#8, 0xE2#8]
  | .set4E => [0xCB#8, 0xE3#8]
  | .set4H => [0xCB#8, 0xE4#8]
  | .set4L => [0xCB#8, 0xE5#8]
  | .set4AtHl => [0xCB#8, 0xE6#8]
  | .set4A => [0xCB#8, 0xE7#8]
  | .set5B => [0xCB#8, 0xE8#8]
  | .set5C => [0xCB#8, 0xE9#8]
  | .set5D => [0xCB#8, 0xEA#8]
  | .set5E => [0xCB#8, 0xEB#8]
  | .set5H => [0xCB#8, 0xEC#8]
  | .set5L => [0xCB#8, 0xED#8]
  | .set5AtHl => [0xCB#8, 0xEE#8]
  | .set5A => [0xCB#8, 0xEF#8]
  | .set6B => [0xCB#8, 0xF0#8]
  | .set6C => [0xCB#8, 0xF1#8]
  | .set6D => [0xCB#8, 0xF2#8]
  | .set6E => [0xCB#8, 0xF3#8]
  | .set6H => [0xCB#8, 0xF4#8]
  | .set6L => [0xCB#8, 0xF5#8]
  | .set6AtHl => [0xCB#8, 0xF6#8]
  | .set6A => [0xCB#8, 0xF7#8]
  | .set7B => [0xCB#8, 0xF8#8]
  | .set7C => [0xCB#8, 0xF9#8]
  | .set7D => [0xCB#8, 0xFA#8]
  | .set7E => [0xCB#8, 0xFB#8]
  | .set7H => [0xCB#8, 0xFC#8]
  | .set7L => [0xCB#8, 0xFD#8]
  | .set7AtHl => [0xCB#8, 0xFE#8]
  | .set7A => [0xCB#8, 0xFF#8]

/-- The encoded length in bytes (R60); the bare prefix byte counts 1. -/
def Instr.length (i : Instr) : Nat := i.encode.length

/-! ## Decoding a list of bytes -/

/-- Why bytes do not decode. Every byte value has a row (R79), so only a list that ends early is rejected. -/
inductive DecodeError where
  /-- no byte at all -/
  | empty
  /-- the first byte's instruction is longer than the list -/
  | truncated (needed : Nat)
  deriving DecidableEq, Repr

/-- The first instruction of a list of bytes and the bytes after it. The byte 0xCB alone is the bare prefix. -/
def decode (bs : List Byte) : Except DecodeError (Instr × List Byte) :=
  match bs with
  | [] => .error .empty
  | b0 :: rest =>
    if b0 = 0xCB#8 ∧ rest = [] then .ok (.prefixCb, [])
    else
      let i := decodeWindow b0 (rest.getD 0 0#8) (rest.getD 1 0#8)
      if i.length ≤ bs.length then .ok (i, bs.drop i.length) else .error (.truncated i.length)

/-- The eleven bytes with "no defined architectural meaning" (R75). -/
def illegalBytes : List Byte :=
  [0xD3#8, 0xDB#8, 0xDD#8, 0xE3#8, 0xE4#8, 0xEB#8, 0xEC#8, 0xED#8, 0xF4#8, 0xFC#8, 0xFD#8]

/-- R77: "How a decoder tells the length of an instruction. It reads the first byte". The map of R73 by its rows
(high nibble), 1 where it marks an illegal byte (the step faults after fetching 1 byte) and 2 for the prefix. -/
def lengthGrid : List (List Nat) :=
  [[1, 3, 1, 1, 1, 1, 2, 1, 3, 1, 1, 1, 1, 1, 2, 1],
   [2, 3, 1, 1, 1, 1, 2, 1, 2, 1, 1, 1, 1, 1, 2, 1],
   [2, 3, 1, 1, 1, 1, 2, 1, 2, 1, 1, 1, 1, 1, 2, 1],
   [2, 3, 1, 1, 1, 1, 2, 1, 2, 1, 1, 1, 1, 1, 2, 1],
   [1, 1, 1, 1, 1, 1, 1, 1, 1, 1, 1, 1, 1, 1, 1, 1],
   [1, 1, 1, 1, 1, 1, 1, 1, 1, 1, 1, 1, 1, 1, 1, 1],
   [1, 1, 1, 1, 1, 1, 1, 1, 1, 1, 1, 1, 1, 1, 1, 1],
   [1, 1, 1, 1, 1, 1, 1, 1, 1, 1, 1, 1, 1, 1, 1, 1],
   [1, 1, 1, 1, 1, 1, 1, 1, 1, 1, 1, 1, 1, 1, 1, 1],
   [1, 1, 1, 1, 1, 1, 1, 1, 1, 1, 1, 1, 1, 1, 1, 1],
   [1, 1, 1, 1, 1, 1, 1, 1, 1, 1, 1, 1, 1, 1, 1, 1],
   [1, 1, 1, 1, 1, 1, 1, 1, 1, 1, 1, 1, 1, 1, 1, 1],
   [1, 1, 3, 3, 3, 1, 2, 1, 1, 1, 3, 2, 3, 3, 2, 1],
   [1, 1, 3, 1, 3, 1, 2, 1, 1, 1, 3, 1, 3, 1, 2, 1],
   [2, 1, 1, 1, 1, 1, 2, 1, 2, 1, 3, 1, 1, 1, 2, 1],
   [2, 1, 1, 1, 1, 1, 2, 1, 2, 1, 3, 1, 1, 1, 2, 1]]

/-- The entry of the length map for a first byte (R73, R77). -/
def lengthOfFirstByte (op : Byte) : Nat :=
  (lengthGrid.getD (op.toNat / 16) []).getD (op.toNat % 16) 0

/-! ## Words of the opcode table -/

/-- The bytes, first byte first, of a word of `nbits` bits that stands for a row of the opcode table. The first byte
is the word's low byte, except that the table writes its two-byte rows as one number with the prefix 0xCB above
the second byte ("match" 0xCB00 for CB 00), so there the high byte comes first (log entry 6). -/
def tableBytes (nbits w : Nat) : List Byte :=
  let lo := BitVec.ofNat 8 w
  let hi := BitVec.ofNat 8 (w / 256)
  if nbits ≤ 8 then [lo]
  else if nbits ≤ 16 then (if hi = 0xCB#8 then [hi, lo] else [lo, hi])
  else [lo, hi, BitVec.ofNat 8 (w / 65536)]

/-- The instruction the decoder reads from a word of the opcode table: from its own bytes where they are a row, and
with operand bytes of zero after them where the row has operands. -/
def decodeTableWord (nbits w : Nat) : Option Instr :=
  match decode (tableBytes nbits w) with
  | .ok (i, _) => some i
  | .error _ =>
    match decode (tableBytes nbits w ++ [0x00#8, 0x00#8]) with
    | .ok (i, _) => some i
    | .error _ => none

end Sys2Proof
end

