-- ==== Sys2Proof/Config.lean ====
section
/-! DEFINITION. The launch parameters of R8 that a reset needs: RESET_PC and RESET_SP. The third one,
MEM0, is an argument of `State.create`. The machine has no free value: the spec leaves no result open. -/

namespace Sys2Proof

/-- RESET_PC, "default 0x0100" (R8, decision D3). `State.create` takes any other value. -/
def Config.resetPc : Word16 := 0x0100#16

/-- RESET_SP is OPEN in the spec (R8, R34, decision D4).
DESIGN CHOICE (unsafe, log entry 1): the reset state uses 0x0000; `State.create` takes any value, and the
statement about creation quantifies over it. -/
def Config.resetSp : Word16 := 0x0000#16

end Sys2Proof
end

