-- ==== Sys2Proof/Machine/State.lean ====
section
/-! DEFINITION. The machine's state (R15, "No other state exists in the core"), the reasons a step can stop,
and the state after reset (R34). -/

namespace Sys2Proof.Machine

/-- The run mode of R28: whether the dispatcher fetches. -/
inductive Mode where
  /-- the dispatcher fetches and executes -/
  | run
  /-- HALT has executed: no fetch until an interrupt is pending (R202) -/
  | halted
  /-- STOP has executed: no fetch until the host's wake event (R203) -/
  | stopped
  deriving DecidableEq, Repr

/-- The four flags of R20, in the spec's order Z N H C. -/
structure Flags where
  z : Bool
  n : Bool
  h : Bool
  c : Bool
  deriving DecidableEq, Repr

/-- Why a step can stop with a fault. R230: "The core has exactly one kind of synchronous exception". -/
inductive Fault where
  /-- The decode fault of R231 with its recorded values. Recorded in `State.fault` by the eleven illegal rows,
  and raised by `step` from a state that already holds it (R31: "A step from a faulted state changes nothing
  and reports the same fault"). Safe: the spec itself ends the run there. -/
  | illegalOpcode (addr : Word16) (byte : Byte)
  deriving DecidableEq, Repr

/-- Why a step can be refused. -/
inductive Refusal where
  /-- An instruction with no meaning yet. Raised by no arm of `exec`: every row of the table has its meaning.
  Safe: nothing is claimed of a refused step. -/
  | notModelled (mnemonic : String)
  deriving DecidableEq, Repr

/-- The bus store `mem` of R15 and R40, as (address, byte) cells in one canonical form
(`Memory.wf` of Machine/Ops.lean): addresses strictly rising and below 2^16, no cell equal to what an
unlisted address reads as. -/
abbrev Memory := List Host.Cell

/-- The architectural state of R15, field for field. -/
structure State where
  /-- accumulator (bits 15..8) and flags F (bits 7..4; bits 3..0 always zero), R16, R20, R21 -/
  af : Word16
  /-- B (high) and C (low), R16 -/
  bc : Word16
  /-- D (high) and E (low), R16 -/
  de : Word16
  /-- H (high) and L (low), R16 -/
  hl : Word16
  /-- stack pointer, R23 -/
  sp : Word16
  /-- address of the next opcode to fetch, R24 -/
  pc : Word16
  /-- interrupt master enable, R26 -/
  ime : Bool
  /-- an EI has executed and IME is not yet set, R27 -/
  eiPending : Bool
  /-- R28 -/
  mode : Mode
  /-- the next fetch does not advance PC, R29 -/
  haltBug : Bool
  /-- accumulated cost in T-cycles, unbounded, R30 -/
  cycles : Nat
  /-- the sticky decode fault, R31 -/
  fault : Option Fault
  /-- the flat bus store, R40; IE is its byte 0xFFFF and IF its byte 0xFF0F, R32 -/
  mem : Memory
  deriving DecidableEq, Repr

/-- The machine right after reset (R34, R250): every register pair zero, PC at RESET_PC, SP at RESET_SP
(log entry 1), IME, ei_pending and halt_bug 0, mode RUN, no cycles, no fault, and no memory cell listed
(MEM0 is the host's image; log entry 2). -/
def State.reset : State where
  af := 0x0000#16
  bc := 0x0000#16
  de := 0x0000#16
  hl := 0x0000#16
  sp := Config.resetSp
  pc := Config.resetPc
  ime := false
  eiPending := false
  mode := .run
  haltBug := false
  cycles := 0
  fault := none
  mem := []

end Sys2Proof.Machine
end

