-- ==== Sys2Proof/Machine/Flags.lean ====
section
/-! DEFINITION. The flag helpers (R80 to R87) and the executors (R88 to R101): pure functions from operand values and
the old flags to a result and the new flags. A flag the spec marks `-` keeps its old value. -/

namespace Sys2Proof.Machine

/-! ## Flag helpers -/

/-- Zero (R81), on the truncated result. -/
def zeroFlag (res : Byte) : Bool := res == 0x00#8

/-- H_add (R83). -/
def hAdd (a b : Byte) (c : Bool) : Bool := decide ((a &&& 0x0F#8).toNat + (b &&& 0x0F#8).toNat + c.toNat > 0x0F)

/-- H_sub (R84). -/
def hSub (a b : Byte) (c : Bool) : Bool := decide ((a &&& 0x0F#8).toNat < (b &&& 0x0F#8).toNat + c.toNat)

/-- C_add (R85), unclamped. -/
def cAdd (a b : Byte) (c : Bool) : Bool := decide (a.toNat + b.toNat + c.toNat > 0xFF)

/-- H_add16 (R86). -/
def hAdd16 (a b : Word16) : Bool := decide ((a &&& 0x0FFF#16).toNat + (b &&& 0x0FFF#16).toNat > 0x0FFF)

/-- C_add16 (R86), unclamped. -/
def cAdd16 (a b : Word16) : Bool := decide (a.toNat + b.toNat > 0xFFFF)

/-- C_sub (R87), unclamped. -/
def cSub (a b : Byte) (c : Bool) : Bool := decide (a.toNat < b.toNat + c.toNat)

/-- The carry as a number of the result's width ("read as 1 or 0 in arithmetic", R11). -/
def carryByte (c : Bool) : Byte := if c then 0x01#8 else 0x00#8

/-- `sext_16(v8)` of R11. -/
def sext16 (v : Byte) : Word16 := if v.getLsbD 7 then 0xFF00#16 ||| v.setWidth 16 else v.setWidth 16

/-! ## Executors -/

/-- INC8 (R89): `Z0H-`, from the post-increment result. -/
def inc8 (x : Byte) (old : Flags) : Byte × Flags :=
  let res := x + 1#8
  (res, { z := zeroFlag res, n := false, h := hAdd x 0x01#8 false, c := old.c })

/-- DEC8 (R90): `Z1H-`. -/
def dec8 (x : Byte) (old : Flags) : Byte × Flags :=
  let res := x - 1#8
  (res, { z := zeroFlag res, n := true, h := hSub x 0x01#8 false, c := old.c })

/-- ADD8 (R91): `Z0HC`. -/
def add8 (a b : Byte) : Byte × Flags :=
  let res := a + b
  (res, { z := zeroFlag res, n := false, h := hAdd a b false, c := cAdd a b false })

/-- ADC8 (R92): `Z0HC`, the incoming carry added into each sum. -/
def adc8 (a b : Byte) (c : Bool) : Byte × Flags :=
  let res := a + b + carryByte c
  (res, { z := zeroFlag res, n := false, h := hAdd a b c, c := cAdd a b c })

/-- SUB8 (R93): `Z1HC`. -/
def sub8 (a b : Byte) : Byte × Flags :=
  let res := a - b
  (res, { z := zeroFlag res, n := true, h := hSub a b false, c := cSub a b false })

/-- SBC8 (R94): `Z1HC`, the incoming carry added to the subtrahend of each comparison. -/
def sbc8 (a b : Byte) (c : Bool) : Byte × Flags :=
  let res := a - b - carryByte c
  (res, { z := zeroFlag res, n := true, h := hSub a b c, c := cSub a b c })

/-- AND8 (R95): `Z010`. -/
def and8 (a b : Byte) : Byte × Flags :=
  let res := a &&& b
  (res, { z := zeroFlag res, n := false, h := true, c := false })

/-- XOR8 (R96): `Z000`. -/
def xor8 (a b : Byte) : Byte × Flags :=
  let res := a ^^^ b
  (res, { z := zeroFlag res, n := false, h := false, c := false })

/-- OR8 (R97): `Z000`. -/
def or8 (a b : Byte) : Byte × Flags :=
  let res := a ||| b
  (res, { z := zeroFlag res, n := false, h := false, c := false })

/-- CP8 (R98): the flags of SUB8; the result is discarded, so the value it gives back is A. -/
def cp8 (a b : Byte) : Byte × Flags := (a, (sub8 a b).2)

/-- The executor of the field alu (R66), on A, the source and the incoming carry. -/
def alu8 (op : AluOp) (a b : Byte) (c : Bool) : Byte × Flags :=
  match op with
  | .add => add8 a b
  | .adc => adc8 a b c
  | .sub => sub8 a b
  | .sbc => sbc8 a b c
  | .and => and8 a b
  | .xor => xor8 a b
  | .or => or8 a b
  | .cp => cp8 a b

/-- ADD16 (R99): `-0HC`. -/
def add16 (a b : Word16) (old : Flags) : Word16 × Flags :=
  (a + b, { z := old.z, n := false, h := hAdd16 a b, c := cAdd16 a b })

/-- ADDSP (R100): `00HC`, the flags those of an 8-bit addition of SP's low byte and the raw byte e8. -/
def addSp (sp : Word16) (e8 : Byte) : Word16 × Flags :=
  let low := loByte sp
  (sp + sext16 e8, { z := false, n := false, h := hAdd low e8 false, c := cAdd low e8 false })

/-- The rotate and shift executors (R101): the result and the bit shifted out. -/
def rotate8 (op : RotOp) (x : Byte) (c : Bool) : Byte × Bool :=
  let b7 := x.getLsbD 7
  let b0 := x.getLsbD 0
  match op with
  | .rlc => ((x <<< 1) ||| carryByte b7, b7)
  | .rrc => ((x >>> 1) ||| (carryByte b0 <<< 7), b0)
  | .rl => ((x <<< 1) ||| carryByte c, b7)
  | .rr => ((x >>> 1) ||| (carryByte c <<< 7), b0)
  | .sla => (x <<< 1, b7)
  | .sra => ((x >>> 1) ||| (x &&& 0x80#8), b0)
  | .swap => (((x &&& 0x0F#8) <<< 4) ||| (x >>> 4), false)
  | .srl => (x >>> 1, b0)

/-- The flags of a CB rotate or shift (R101): `Z00C`. -/
def rotateFlags (res : Byte) (cout : Bool) : Flags := { z := zeroFlag res, n := false, h := false, c := cout }

/-- The flags of an accumulator rotate (R101): `000C`, "Z is cleared whatever the result". -/
def rotateAFlags (cout : Bool) : Flags := { z := false, n := false, h := false, c := cout }

/-- DAA (R206): `Z-0C`, for every A and every flag combination (decision D25). -/
def daa8 (a : Byte) (old : Flags) : Byte × Flags :=
  if old.n then
    let a1 := if old.c then a - 0x60#8 else a
    let a2 := if old.h then a1 - 0x06#8 else a1
    (a2, { z := zeroFlag a2, n := old.n, h := false, c := old.c })
  else
    let high := old.c || decide (a.toNat > 0x99)
    let a1 := if high then a + 0x60#8 else a
    let low := old.h || decide ((a1 &&& 0x0F#8).toNat > 0x09)
    let a2 := if low then a1 + 0x06#8 else a1
    (a2, { z := zeroFlag a2, n := old.n, h := false, c := if high then true else old.c })

/-- The flags of BIT (R269): `Z01-`. -/
def bitFlags (t : Byte) (b : BitVec 3) (old : Flags) : Flags :=
  { z := !t.getLsbD b.toNat, n := false, h := true, c := old.c }

end Sys2Proof.Machine
end

