-- ==== Sys2Proof/Machine/Ops.lean ====
section
/-! DEFINITION. The named operations over memory, registers, the fetch, the stack and the interrupt mechanism that
every meaning and the step are built from. All are total: no access of this machine faults (R19, R40, R230). -/

namespace Sys2Proof.Machine

/-- What one instruction or one step answers. -/
abbrev Result := Host.Outcome State Fault Refusal

/-! ## The bus store -/

/-- What an address with no listed cell reads as.
DESIGN CHOICE (unsafe, log entry 2): MEM0 is the host's image, and outside it every byte reads 0x00. -/
def Memory.background : Byte := 0x00#8

/-- The byte stored at an address. -/
def Memory.read (m : Memory) (a : Nat) : Byte :=
  match m with
  | [] => Memory.background
  | (k, v) :: rest => if k = a then v else Memory.read rest a

/-- A cell put in its place in a list of rising addresses. -/
def Memory.insertCell (m : Memory) (a : Nat) (v : Byte) : Memory :=
  match m with
  | [] => [(a, v)]
  | (k, w) :: rest =>
    if a < k then (a, v) :: (k, w) :: rest
    else if a = k then (a, v) :: rest
    else (k, w) :: Memory.insertCell rest a v

/-- `mem[addr] <- v8` of R41, "every other address unchanged". Writing what an unlisted address reads as removes
the cell. -/
def Memory.write (m : Memory) (a : Nat) (v : Byte) : Memory :=
  if v = Memory.background then m.filter (fun cell => cell.1 != a) else Memory.insertCell m a v

/-- The canonical form from address `lo` on. -/
def Memory.wfFrom (lo : Nat) (m : Memory) : Bool :=
  match m with
  | [] => true
  | (a, v) :: rest => decide (lo ≤ a) && decide (a < 65536) && (v != Memory.background) && Memory.wfFrom (a + 1) rest

/-- The canonical form: addresses strictly rising and below 2^16 (R40), no cell equal to the background. -/
def Memory.wf (m : Memory) : Bool := Memory.wfFrom 0 m

/-- The memory a host's image gives: its bytes written one after another over the background, so that the byte named last
for an address stands (MEM0 of R8, a function in the spec; the list is a DESIGN CHOICE, log entry 2). -/
def Memory.load (image : List (Word16 × Byte)) : Memory :=
  image.foldl (fun m cell => Memory.write m cell.1.toNat cell.2) []

/-- MemRead(addr, 1) (R41). -/
def State.readByte (s : State) (a : Word16) : Byte := Memory.read s.mem a.toNat

/-- MemWrite(addr, 1, v8) (R41). "Neither access has any other effect on the core." -/
def State.writeByte (s : State) (a : Word16) (v : Byte) : State := { s with mem := Memory.write s.mem a.toNat v }

/-- MemRead(addr, 2) (R42): little-endian, `addr + 1` modulo 2^16. -/
def State.readWord (s : State) (a : Word16) : Word16 := joinBytes (s.readByte (a + 1#16)) (s.readByte a)

/-- MemWrite(addr, 2, v16) (R42): the low byte at `addr`, then the high byte at `addr + 1`. -/
def State.writeWord (s : State) (a : Word16) (v : Word16) : State :=
  (s.writeByte a (loByte v)).writeByte (a + 1#16) (hiByte v)

/-! ## The register file -/

/-- write_hi of R18: the other byte is preserved. -/
def writeHi (p : Word16) (v : Byte) : Word16 := (v.setWidth 16 <<< 8) ||| (p &&& 0x00FF#16)

/-- write_lo of R18: the other byte is preserved. -/
def writeLo (p : Word16) (v : Byte) : Word16 := (p &&& 0xFF00#16) ||| v.setWidth 16

/-- An 8-bit register, as a view of its pair (R16, R17). -/
def State.reg (s : State) (r : Reg8) : Byte :=
  match r with
  | .a => hiByte s.af
  | .b => hiByte s.bc
  | .c => loByte s.bc
  | .d => hiByte s.de
  | .e => loByte s.de
  | .h => hiByte s.hl
  | .l => loByte s.hl

/-- A write of an 8-bit register, through its view (R18). -/
def State.setReg (s : State) (r : Reg8) (v : Byte) : State :=
  match r with
  | .a => { s with af := writeHi s.af v }
  | .b => { s with bc := writeHi s.bc v }
  | .c => { s with bc := writeLo s.bc v }
  | .d => { s with de := writeHi s.de v }
  | .e => { s with de := writeLo s.de v }
  | .h => { s with hl := writeHi s.hl v }
  | .l => { s with hl := writeLo s.hl v }

/-- The flags register F as a byte (R20). -/
def State.f (s : State) : Byte := loByte s.af

/-- Every write of F "stores `v & 0xF0` into F" (R21). -/
def State.setF (s : State) (v : Byte) : State := { s with af := writeLo s.af (v &&& 0xF0#8) }

/-- The four flags, F bits 7 to 4 (R20). -/
def State.flags (s : State) : Flags where
  z := s.f.getLsbD 7
  n := s.f.getLsbD 6
  h := s.f.getLsbD 5
  c := s.f.getLsbD 4

/-- The flags as the byte F (R20). -/
def Flags.toByte (x : Flags) : Byte :=
  BitVec.ofBool x.z ++ BitVec.ofBool x.n ++ BitVec.ofBool x.h ++ BitVec.ofBool x.c ++ 0#4

/-- The caller of an executor "applies each flag update to F" (R88). -/
def State.setFlags (s : State) (x : Flags) : State := s.setF x.toByte

/-- A 16-bit register of the field rr (R19, R63). -/
def State.pair (s : State) (p : Pair) : Word16 :=
  match p with
  | .bc => s.bc
  | .de => s.de
  | .hl => s.hl
  | .sp => s.sp

/-- A write of all 16 bits of a register of the field rr (R19). -/
def State.setPair (s : State) (p : Pair) (v : Word16) : State :=
  match p with
  | .bc => { s with bc := v }
  | .de => { s with de := v }
  | .hl => { s with hl := v }
  | .sp => { s with sp := v }

/-- A pair of the field rr2 (R64). -/
def State.stackPair (s : State) (q : StackPair) : Word16 :=
  match q with
  | .bc => s.bc
  | .de => s.de
  | .hl => s.hl
  | .af => s.af

/-- write_pair of R19 and R21 on the field rr2: AF stores `v16 & 0xFFF0`. -/
def State.setStackPair (s : State) (q : StackPair) (v : Word16) : State :=
  match q with
  | .bc => { s with bc := v }
  | .de => { s with de := v }
  | .hl => { s with hl := v }
  | .af => { s with af := v &&& 0xFFF0#16 }

/-! ## The fetch -/

/-- Fetch8 (R50): the byte at PC; PC advances by 1 modulo 2^16, unless the halt bug holds it once. -/
def State.fetch8 (s : State) : Byte × State :=
  let b := s.readByte s.pc
  if s.haltBug then (b, { s with haltBug := false }) else (b, { s with pc := s.pc + 1#16 })

/-- Fetch16 (R51): low byte first. -/
def State.fetch16 (s : State) : Word16 × State :=
  let lo := s.fetch8
  let hi := lo.2.fetch8
  (joinBytes hi.1 lo.1, hi.2)

/-- The state after `n` Fetch8 (R24, R50): where a meaning of an `n`-byte instruction begins its work, "All the
fetches of an instruction happen before any of its data accesses". -/
def State.fetched (n : Nat) (s : State) : State :=
  match n with
  | 0 => s
  | k + 1 => State.fetched k s.fetch8.2

/-- The instruction whose bytes the next Fetch8 calls read (R50, R77). Reading the two bytes after the first whatever
the length has no effect, since no read has one (R46). -/
def State.nextInstr (s : State) : Instr :=
  let f0 := s.fetch8
  let f1 := f0.2.fetch8
  let f2 := f1.2.fetch8
  decodeWindow f0.1 f1.1 f2.1

/-- Bytes stored from an address on, the addresses modulo 2^16. -/
def State.placeBytes (s : State) (a : Word16) (bytes : List Byte) : State :=
  match bytes with
  | [] => s
  | b :: rest => State.placeBytes (s.writeByte a b) (a + 1#16) rest

/-! ## The stack -/

/-- Push16 (R170). -/
def State.push16 (s : State) (v : Word16) : State :=
  let s1 := { s with sp := s.sp - 1#16 }
  let s2 := s1.writeByte s1.sp (hiByte v)
  let s3 := { s2 with sp := s2.sp - 1#16 }
  s3.writeByte s3.sp (loByte v)

/-- Pop16 (R170). -/
def State.pop16 (s : State) : Word16 × State :=
  let lo := s.readByte s.sp
  let s1 := { s with sp := s.sp + 1#16 }
  let hi := s1.readByte s1.sp
  (joinBytes hi lo, { s1 with sp := s1.sp + 1#16 })

/-! ## Cycles, faults and interrupts -/

/-- `cycles <- cycles + n` (R53). -/
def State.addCycles (s : State) (n : Nat) : State := { s with cycles := s.cycles + n }

/-- A completed instruction, interrupt entry or idle step of the given cost (R53). -/
def finish (cost : Nat) (s : State) : Result := .next (s.addCycles cost)

/-- Taking the decode fault (R231): `addr` is the address the opcode byte was fetched from, the opcode fetch has
happened, and nothing else changes, the cycle count included. -/
def State.decodeFault (s : State) (byte : Byte) : State :=
  { State.fetched 1 s with fault := some (.illegalOpcode s.pc byte) }

/-- The address of IE (R32). -/
def addrIE : Word16 := 0xFFFF#16

/-- The address of IF (R32). -/
def addrIF : Word16 := 0xFF0F#16

/-- `pending = IE & IF & 0x1F` (R234). -/
def State.pending (s : State) : Byte := s.readByte addrIE &&& s.readByte addrIF &&& 0x1F#8

/-- The lowest set bit of a set of pending interrupts (R235); bit 4 where none of the lower ones is set. -/
def lowestPending (p : Byte) : Nat :=
  if p.getLsbD 0 then 0
  else if p.getLsbD 1 then 1
  else if p.getLsbD 2 then 2
  else if p.getLsbD 3 then 3
  else 4

/-- The entry vector 0x0040 + 8·n of source n (R233). -/
def interruptVector (n : Nat) : Word16 := 0x0040#16 + 8#16 * BitVec.ofNat 16 n

/-- InterruptEntry(n) (R236): IME and ei_pending cleared, IF[n] acknowledged, the return address pushed (the HALT's
own while the halt bug is armed), PC at the vector. Its return is RETI, or EI with RET (R239). -/
def State.interruptEntry (s : State) (n : Nat) : State :=
  let ret := if s.haltBug then s.pc - 1#16 else s.pc
  let s1 := { s with ime := false, eiPending := false, haltBug := false }
  let s2 := s1.writeByte addrIF (s1.readByte addrIF &&& ~~~(1#8 <<< n))
  let s3 := s2.push16 ret
  { s3 with pc := interruptVector n }

/-- Returning from an interrupt handler (RETI, R183): PC popped and IME set at once, ei_pending unchanged. -/
def State.returnFromInterrupt (s : State) : State :=
  let popped := s.pop16
  { popped.2 with pc := popped.1, ime := true }

/-- Step 6 of R52, the delayed effect of a previous EI (R54): after an instruction that began with ei_pending = 1 and
left it so, IME becomes 1. A decode fault returns before it. -/
def State.afterInstruction (s : State) (eiWasPending : Bool) : State :=
  if s.fault.isNone && eiWasPending && s.eiPending then { s with ime := true, eiPending := false } else s

/-! ## Reset and the host's image -/

/-- `create(MEM0, RESET_PC, RESET_SP)` (R57, R250), the image given as the bytes it names. -/
def State.create (image : List (Word16 × Byte)) (resetPc resetSp : Word16) : State :=
  { State.reset with mem := Memory.load image, pc := resetPc, sp := resetSp }

end Sys2Proof.Machine
end

