-- ==== Sys2Proof/Machine/Operands.lean ====
section
/-! DEFINITION. The operand forms: the r field with its (HL) form (R62, R260), the ALU source (R140), the addressing
modes of the load family (R131), and the conditions (R65, R173). -/

namespace Sys2Proof.Machine

/-- The value of the operand r (R62): a register, or MemRead(HL, 1). -/
def State.operand (s : State) (o : Operand8) : Byte :=
  match o with
  | .reg r => s.reg r
  | .atHl => s.readByte s.hl

/-- `t <- res` of R260: the register, or MemWrite(HL, 1, res). -/
def State.setOperand (s : State) (o : Operand8) (v : Byte) : State :=
  match o with
  | .reg r => s.setReg r v
  | .atHl => s.writeByte s.hl v

/-- The value of an ALU instruction's second operand (R140). -/
def State.source (s : State) (src : Source) : Byte :=
  match src with
  | .reg r => s.reg r
  | .atHl => s.readByte s.hl
  | .imm n8 => n8

/-- The length of an ALU instruction by the form of its source (R140). -/
def sourceLength (src : Source) : Nat :=
  match src with
  | .reg _ => 1
  | .atHl => 1
  | .imm _ => 2

/-- The cost of an ALU instruction by the form of its source (R140). -/
def sourceCost (src : Source) : Nat :=
  match src with
  | .reg _ => 4
  | .atHl => 8
  | .imm _ => 8

/-- `0xFF00 | a8` (R68). -/
def highPage (a8 : Byte) : Word16 := 0xFF00#16 ||| a8.setWidth 16

/-- The effective address of an addressing mode (R131). -/
def State.effectiveAddress (s : State) (m : AddrMode) : Word16 :=
  match m with
  | .atBc => s.bc
  | .atDe => s.de
  | .atHlInc => s.hl
  | .atHlDec => s.hl
  | .atA16 a16 => a16
  | .atA8 a8 => highPage a8
  | .atC => highPage (s.reg .c)

/-- The base modification of an addressing mode, "after the access (mod 2^16)" (R131). -/
def State.postModify (s : State) (m : AddrMode) : State :=
  match m with
  | .atHlInc => { s with hl := s.hl + 1#16 }
  | .atHlDec => { s with hl := s.hl - 1#16 }
  | .atBc => s
  | .atDe => s
  | .atA16 _ => s
  | .atA8 _ => s
  | .atC => s

/-- The length of an accumulator load or store by its mode (R112 to R117, R124 to R129). -/
def modeLength (m : AddrMode) : Nat :=
  match m with
  | .atA16 _ => 3
  | .atA8 _ => 2
  | .atBc => 1
  | .atDe => 1
  | .atHlInc => 1
  | .atHlDec => 1
  | .atC => 1

/-- The cost of an accumulator load or store by its mode (R112 to R117, R124 to R129). -/
def modeCost (m : AddrMode) : Nat :=
  match m with
  | .atA16 _ => 16
  | .atA8 _ => 12
  | .atBc => 8
  | .atDe => 8
  | .atHlInc => 8
  | .atHlDec => 8
  | .atC => 8

/-- `cond(cc)` (R65, R173), on the flags as they stand at the start of the instruction. -/
def State.cond (s : State) (cc : Cond) : Bool :=
  match cc with
  | .nz => !s.flags.z
  | .z => s.flags.z
  | .nc => !s.flags.c
  | .c => s.flags.c

end Sys2Proof.Machine
end

