-- ==== Sys2Proof/Machine/Arith.lean ====
section
/-! DEFINITION. The 8-bit and 16-bit arithmetic and logic instructions (R140 to R157). Each shared operation takes the
state before the fetch. -/

namespace Sys2Proof.Machine

/-! ## Shared operations -/

/-- An 8-bit ALU instruction (R140 to R148): the source is read before the executor runs, and F.C before it is
written. CP gives A back as its result, so A keeps its value (R98). -/
def accumulate (op : AluOp) (src : Source) (s : State) : Result :=
  let s1 := s.fetched (sourceLength src)
  let out := alu8 op (s1.reg .a) (s1.source src) s1.flags.c
  finish (sourceCost src) ((s1.setReg .a out.1).setFlags out.2)

/-- The cost of INC and DEC by operand (R149 to R152). -/
def incDecCost (o : Operand8) : Nat :=
  match o with
  | .reg _ => 4
  | .atHl => 12

/-- INC r and INC (HL) (R149, R150). -/
def incOperand (o : Operand8) (s : State) : Result :=
  let s1 := s.fetched 1
  let out := inc8 (s1.operand o) s1.flags
  finish (incDecCost o) ((s1.setOperand o out.1).setFlags out.2)

/-- DEC r and DEC (HL) (R151, R152). -/
def decOperand (o : Operand8) (s : State) : Result :=
  let s1 := s.fetched 1
  let out := dec8 (s1.operand o) s1.flags
  finish (incDecCost o) ((s1.setOperand o out.1).setFlags out.2)

/-- ADD HL,rr (R153). -/
def addHl (p : Pair) (s : State) : Result :=
  let s1 := s.fetched 1
  let out := add16 s1.hl (s1.pair p) s1.flags
  finish 8 (({ s1 with hl := out.1 } : State).setFlags out.2)

/-- INC rr (R154): no flag. -/
def incPair (p : Pair) (s : State) : Result :=
  let s1 := s.fetched 1
  finish 8 (s1.setPair p (s1.pair p + 1#16))

/-- DEC rr (R155): no flag. -/
def decPair (p : Pair) (s : State) : Result :=
  let s1 := s.fetched 1
  finish 8 (s1.setPair p (s1.pair p - 1#16))

/-- ADD SP,e8 (R156). -/
def addSpImm (e8 : Byte) (s : State) : Result :=
  let s1 := s.fetched 2
  let out := addSp s1.sp e8
  finish 16 (({ s1 with sp := out.1 } : State).setFlags out.2)

/-- LD HL,SP+e8 (R157): SP unchanged. -/
def loadHlSpImm (e8 : Byte) (s : State) : Result :=
  let s1 := s.fetched 2
  let out := addSp s1.sp e8
  finish 12 (({ s1 with hl := out.1 } : State).setFlags out.2)

/-! ## The meanings, one per row of the opcode table -/

/-- INC BC, 03 (R154). -/
def execIncBc (s : State) : Result := incPair .bc s

/-- INC B, 04 (R149). -/
def execIncB (s : State) : Result := incOperand (.reg .b) s

/-- DEC B, 05 (R151). -/
def execDecB (s : State) : Result := decOperand (.reg .b) s

/-- ADD HL,BC, 09 (R153). -/
def execAddHlBc (s : State) : Result := addHl .bc s

/-- DEC BC, 0B (R155). -/
def execDecBc (s : State) : Result := decPair .bc s

/-- INC C, 0C (R149). -/
def execIncC (s : State) : Result := incOperand (.reg .c) s

/-- DEC C, 0D (R151). -/
def execDecC (s : State) : Result := decOperand (.reg .c) s

/-- INC DE, 13 (R154). -/
def execIncDe (s : State) : Result := incPair .de s

/-- INC D, 14 (R149). -/
def execIncD (s : State) : Result := incOperand (.reg .d) s

/-- DEC D, 15 (R151). -/
def execDecD (s : State) : Result := decOperand (.reg .d) s

/-- ADD HL,DE, 19 (R153). -/
def execAddHlDe (s : State) : Result := addHl .de s

/-- DEC DE, 1B (R155). -/
def execDecDe (s : State) : Result := decPair .de s

/-- INC E, 1C (R149). -/
def execIncE (s : State) : Result := incOperand (.reg .e) s

/-- DEC E, 1D (R151). -/
def execDecE (s : State) : Result := decOperand (.reg .e) s

/-- INC HL, 23 (R154). -/
def execIncHl (s : State) : Result := incPair .hl s

/-- INC H, 24 (R149). -/
def execIncH (s : State) : Result := incOperand (.reg .h) s

/-- DEC H, 25 (R151). -/
def execDecH (s : State) : Result := decOperand (.reg .h) s

/-- ADD HL,HL, 29 (R153). -/
def execAddHlHl (s : State) : Result := addHl .hl s

/-- DEC HL, 2B (R155). -/
def execDecHl (s : State) : Result := decPair .hl s

/-- INC L, 2C (R149). -/
def execIncL (s : State) : Result := incOperand (.reg .l) s

/-- DEC L, 2D (R151). -/
def execDecL (s : State) : Result := decOperand (.reg .l) s

/-- INC SP, 33 (R154). -/
def execIncSp (s : State) : Result := incPair .sp s

/-- INC (HL), 34 (R150). -/
def execIncAtHl (s : State) : Result := incOperand .atHl s

/-- DEC (HL), 35 (R152). -/
def execDecAtHl (s : State) : Result := decOperand .atHl s

/-- ADD HL,SP, 39 (R153). -/
def execAddHlSp (s : State) : Result := addHl .sp s

/-- DEC SP, 3B (R155). -/
def execDecSp (s : State) : Result := decPair .sp s

/-- INC A, 3C (R149). -/
def execIncA (s : State) : Result := incOperand (.reg .a) s

/-- DEC A, 3D (R151). -/
def execDecA (s : State) : Result := decOperand (.reg .a) s

/-- ADD A,B, 80 (R141). -/
def execAddAB (s : State) : Result := accumulate .add (.reg .b) s

/-- ADD A,C, 81 (R141). -/
def execAddAC (s : State) : Result := accumulate .add (.reg .c) s

/-- ADD A,D, 82 (R141). -/
def execAddAD (s : State) : Result := accumulate .add (.reg .d) s

/-- ADD A,E, 83 (R141). -/
def execAddAE (s : State) : Result := accumulate .add (.reg .e) s

/-- ADD A,H, 84 (R141). -/
def execAddAH (s : State) : Result := accumulate .add (.reg .h) s

/-- ADD A,L, 85 (R141). -/
def execAddAL (s : State) : Result := accumulate .add (.reg .l) s

/-- ADD A,(HL), 86 (R141). -/
def execAddAAtHl (s : State) : Result := accumulate .add .atHl s

/-- ADD A,A, 87 (R141). -/
def execAddAA (s : State) : Result := accumulate .add (.reg .a) s

/-- ADC A,B, 88 (R142). -/
def execAdcAB (s : State) : Result := accumulate .adc (.reg .b) s

/-- ADC A,C, 89 (R142). -/
def execAdcAC (s : State) : Result := accumulate .adc (.reg .c) s

/-- ADC A,D, 8A (R142). -/
def execAdcAD (s : State) : Result := accumulate .adc (.reg .d) s

/-- ADC A,E, 8B (R142). -/
def execAdcAE (s : State) : Result := accumulate .adc (.reg .e) s

/-- ADC A,H, 8C (R142). -/
def execAdcAH (s : State) : Result := accumulate .adc (.reg .h) s

/-- ADC A,L, 8D (R142). -/
def execAdcAL (s : State) : Result := accumulate .adc (.reg .l) s

/-- ADC A,(HL), 8E (R142). -/
def execAdcAAtHl (s : State) : Result := accumulate .adc .atHl s

/-- ADC A,A, 8F (R142). -/
def execAdcAA (s : State) : Result := accumulate .adc (.reg .a) s

/-- SUB B, 90 (R143). -/
def execSubB (s : State) : Result := accumulate .sub (.reg .b) s

/-- SUB C, 91 (R143). -/
def execSubC (s : State) : Result := accumulate .sub (.reg .c) s

/-- SUB D, 92 (R143). -/
def execSubD (s : State) : Result := accumulate .sub (.reg .d) s

/-- SUB E, 93 (R143). -/
def execSubE (s : State) : Result := accumulate .sub (.reg .e) s

/-- SUB H, 94 (R143). -/
def execSubH (s : State) : Result := accumulate .sub (.reg .h) s

/-- SUB L, 95 (R143). -/
def execSubL (s : State) : Result := accumulate .sub (.reg .l) s

/-- SUB (HL), 96 (R143). -/
def execSubAtHl (s : State) : Result := accumulate .sub .atHl s

/-- SUB A, 97 (R143). -/
def execSubA (s : State) : Result := accumulate .sub (.reg .a) s

/-- SBC A,B, 98 (R144). -/
def execSbcAB (s : State) : Result := accumulate .sbc (.reg .b) s

/-- SBC A,C, 99 (R144). -/
def execSbcAC (s : State) : Result := accumulate .sbc (.reg .c) s

/-- SBC A,D, 9A (R144). -/
def execSbcAD (s : State) : Result := accumulate .sbc (.reg .d) s

/-- SBC A,E, 9B (R144). -/
def execSbcAE (s : State) : Result := accumulate .sbc (.reg .e) s

/-- SBC A,H, 9C (R144). -/
def execSbcAH (s : State) : Result := accumulate .sbc (.reg .h) s

/-- SBC A,L, 9D (R144). -/
def execSbcAL (s : State) : Result := accumulate .sbc (.reg .l) s

/-- SBC A,(HL), 9E (R144). -/
def execSbcAAtHl (s : State) : Result := accumulate .sbc .atHl s

/-- SBC A,A, 9F (R144). -/
def execSbcAA (s : State) : Result := accumulate .sbc (.reg .a) s

/-- AND B, A0 (R145). -/
def execAndB (s : State) : Result := accumulate .and (.reg .b) s

/-- AND C, A1 (R145). -/
def execAndC (s : State) : Result := accumulate .and (.reg .c) s

/-- AND D, A2 (R145). -/
def execAndD (s : State) : Result := accumulate .and (.reg .d) s

/-- AND E, A3 (R145). -/
def execAndE (s : State) : Result := accumulate .and (.reg .e) s

/-- AND H, A4 (R145). -/
def execAndH (s : State) : Result := accumulate .and (.reg .h) s

/-- AND L, A5 (R145). -/
def execAndL (s : State) : Result := accumulate .and (.reg .l) s

/-- AND (HL), A6 (R145). -/
def execAndAtHl (s : State) : Result := accumulate .and .atHl s

/-- AND A, A7 (R145). -/
def execAndA (s : State) : Result := accumulate .and (.reg .a) s

/-- XOR B, A8 (R146). -/
def execXorB (s : State) : Result := accumulate .xor (.reg .b) s

/-- XOR C, A9 (R146). -/
def execXorC (s : State) : Result := accumulate .xor (.reg .c) s

/-- XOR D, AA (R146). -/
def execXorD (s : State) : Result := accumulate .xor (.reg .d) s

/-- XOR E, AB (R146). -/
def execXorE (s : State) : Result := accumulate .xor (.reg .e) s

/-- XOR H, AC (R146). -/
def execXorH (s : State) : Result := accumulate .xor (.reg .h) s

/-- XOR L, AD (R146). -/
def execXorL (s : State) : Result := accumulate .xor (.reg .l) s

/-- XOR (HL), AE (R146). -/
def execXorAtHl (s : State) : Result := accumulate .xor .atHl s

/-- XOR A, AF (R146). -/
def execXorA (s : State) : Result := accumulate .xor (.reg .a) s

/-- OR B, B0 (R147). -/
def execOrB (s : State) : Result := accumulate .or (.reg .b) s

/-- OR C, B1 (R147). -/
def execOrC (s : State) : Result := accumulate .or (.reg .c) s

/-- OR D, B2 (R147). -/
def execOrD (s : State) : Result := accumulate .or (.reg .d) s

/-- OR E, B3 (R147). -/
def execOrE (s : State) : Result := accumulate .or (.reg .e) s

/-- OR H, B4 (R147). -/
def execOrH (s : State) : Result := accumulate .or (.reg .h) s

/-- OR L, B5 (R147). -/
def execOrL (s : State) : Result := accumulate .or (.reg .l) s

/-- OR (HL), B6 (R147). -/
def execOrAtHl (s : State) : Result := accumulate .or .atHl s

/-- OR A, B7 (R147). -/
def execOrA (s : State) : Result := accumulate .or (.reg .a) s

/-- CP B, B8 (R148). -/
def execCpB (s : State) : Result := accumulate .cp (.reg .b) s

/-- CP C, B9 (R148). -/
def execCpC (s : State) : Result := accumulate .cp (.reg .c) s

/-- CP D, BA (R148). -/
def execCpD (s : State) : Result := accumulate .cp (.reg .d) s

/-- CP E, BB (R148). -/
def execCpE (s : State) : Result := accumulate .cp (.reg .e) s

/-- CP H, BC (R148). -/
def execCpH (s : State) : Result := accumulate .cp (.reg .h) s

/-- CP L, BD (R148). -/
def execCpL (s : State) : Result := accumulate .cp (.reg .l) s

/-- CP (HL), BE (R148). -/
def execCpAtHl (s : State) : Result := accumulate .cp .atHl s

/-- CP A, BF (R148). -/
def execCpA (s : State) : Result := accumulate .cp (.reg .a) s

/-- ADD A,n8, C6 (R141). -/
def execAddAN8 (n8 : Byte) (s : State) : Result := accumulate .add (.imm n8) s

/-- ADC A,n8, CE (R142). -/
def execAdcAN8 (n8 : Byte) (s : State) : Result := accumulate .adc (.imm n8) s

/-- SUB n8, D6 (R143). -/
def execSubN8 (n8 : Byte) (s : State) : Result := accumulate .sub (.imm n8) s

/-- SBC A,n8, DE (R144). -/
def execSbcAN8 (n8 : Byte) (s : State) : Result := accumulate .sbc (.imm n8) s

/-- AND n8, E6 (R145). -/
def execAndN8 (n8 : Byte) (s : State) : Result := accumulate .and (.imm n8) s

/-- ADD SP,e8, E8 (R156). -/
def execAddSpE8 (e8 : Byte) (s : State) : Result := addSpImm e8 s

/-- XOR n8, EE (R146). -/
def execXorN8 (n8 : Byte) (s : State) : Result := accumulate .xor (.imm n8) s

/-- OR n8, F6 (R147). -/
def execOrN8 (n8 : Byte) (s : State) : Result := accumulate .or (.imm n8) s

/-- LD HL,SP+e8, F8 (R157). -/
def execLdHlSpE8 (e8 : Byte) (s : State) : Result := loadHlSpImm e8 s

/-- CP n8, FE (R148). -/
def execCpN8 (n8 : Byte) (s : State) : Result := accumulate .cp (.imm n8) s

end Sys2Proof.Machine
end

