-- ==== Sys2Proof/Machine/Control.lean ====
section
/-! DEFINITION. Stack and control-transfer instructions (R170 to R185). A conditional fetches all its bytes whether
or not its condition holds (R173). Each shared operation takes the state before the fetch. -/

namespace Sys2Proof.Machine

/-! ## Shared operations -/

/-- PUSH rr2 (R171). -/
def pushPair (q : StackPair) (s : State) : Result :=
  let s1 := s.fetched 1
  finish 16 (s1.push16 (s1.stackPair q))

/-- POP rr2 (R172). -/
def popPair (q : StackPair) (s : State) : Result :=
  let popped := (s.fetched 1).pop16
  finish 12 (popped.2.setStackPair q popped.1)

/-- JP a16 (R174). -/
def jump (a16 : Word16) (s : State) : Result := finish 16 { s.fetched 3 with pc := a16 }

/-- JP cc,a16 (R175): 16 cycles taken, 12 not taken. -/
def jumpIf (cc : Cond) (a16 : Word16) (s : State) : Result :=
  let s1 := s.fetched 3
  if s1.cond cc then finish 16 { s1 with pc := a16 } else finish 12 s1

/-- JP HL (R176). -/
def jumpHl (s : State) : Result :=
  let s1 := s.fetched 1
  finish 4 { s1 with pc := s1.hl }

/-- JR e8 (R177), from the address after the instruction. -/
def jumpRel (e8 : Byte) (s : State) : Result :=
  let s1 := s.fetched 2
  finish 12 { s1 with pc := s1.pc + sext16 e8 }

/-- JR cc,e8 (R178): 12 cycles taken, 8 not taken. -/
def jumpRelIf (cc : Cond) (e8 : Byte) (s : State) : Result :=
  let s1 := s.fetched 2
  if s1.cond cc then finish 12 { s1 with pc := s1.pc + sext16 e8 } else finish 8 s1

/-- CALL a16 (R179). -/
def call (a16 : Word16) (s : State) : Result :=
  let s1 := s.fetched 3
  finish 24 { s1.push16 s1.pc with pc := a16 }

/-- CALL cc,a16 (R180): 24 cycles taken, 12 not taken. -/
def callIf (cc : Cond) (a16 : Word16) (s : State) : Result :=
  let s1 := s.fetched 3
  if s1.cond cc then finish 24 { s1.push16 s1.pc with pc := a16 } else finish 12 s1

/-- RET (R181). -/
def ret (s : State) : Result :=
  let popped := (s.fetched 1).pop16
  finish 16 { popped.2 with pc := popped.1 }

/-- RET cc (R182): 20 cycles taken, 8 not taken. -/
def retIf (cc : Cond) (s : State) : Result :=
  let s1 := s.fetched 1
  let popped := s1.pop16
  if s1.cond cc then finish 20 { popped.2 with pc := popped.1 } else finish 8 s1

/-- RETI (R183). -/
def retInterrupt (s : State) : Result := finish 16 (s.fetched 1).returnFromInterrupt

/-- RST n (R184). -/
def restart (n : Byte) (s : State) : Result :=
  let s1 := s.fetched 1
  finish 16 { s1.push16 s1.pc with pc := n.setWidth 16 }

/-! ## The meanings, one per row of the opcode table -/

/-- JR e8, 18 (R177). -/
def execJrE8 (e8 : Byte) (s : State) : Result := jumpRel e8 s

/-- JR NZ,e8, 20 (R178). -/
def execJrNzE8 (e8 : Byte) (s : State) : Result := jumpRelIf .nz e8 s

/-- JR Z,e8, 28 (R178). -/
def execJrZE8 (e8 : Byte) (s : State) : Result := jumpRelIf .z e8 s

/-- JR NC,e8, 30 (R178). -/
def execJrNcE8 (e8 : Byte) (s : State) : Result := jumpRelIf .nc e8 s

/-- JR C,e8, 38 (R178). -/
def execJrCE8 (e8 : Byte) (s : State) : Result := jumpRelIf .c e8 s

/-- RET NZ, C0 (R182). -/
def execRetNz (s : State) : Result := retIf .nz s

/-- POP BC, C1 (R172). -/
def execPopBc (s : State) : Result := popPair .bc s

/-- JP NZ,a16, C2 (R175). -/
def execJpNzA16 (a16 : Word16) (s : State) : Result := jumpIf .nz a16 s

/-- JP a16, C3 (R174). -/
def execJpA16 (a16 : Word16) (s : State) : Result := jump a16 s

/-- CALL NZ,a16, C4 (R180). -/
def execCallNzA16 (a16 : Word16) (s : State) : Result := callIf .nz a16 s

/-- PUSH BC, C5 (R171). -/
def execPushBc (s : State) : Result := pushPair .bc s

/-- RST $00, C7 (R184). -/
def execRst00 (s : State) : Result := restart 0x00#8 s

/-- RET Z, C8 (R182). -/
def execRetZ (s : State) : Result := retIf .z s

/-- RET, C9 (R181). -/
def execRet (s : State) : Result := ret s

/-- JP Z,a16, CA (R175). -/
def execJpZA16 (a16 : Word16) (s : State) : Result := jumpIf .z a16 s

/-- CALL Z,a16, CC (R180). -/
def execCallZA16 (a16 : Word16) (s : State) : Result := callIf .z a16 s

/-- CALL a16, CD (R179). -/
def execCallA16 (a16 : Word16) (s : State) : Result := call a16 s

/-- RST $08, CF (R184). -/
def execRst08 (s : State) : Result := restart 0x08#8 s

/-- RET NC, D0 (R182). -/
def execRetNc (s : State) : Result := retIf .nc s

/-- POP DE, D1 (R172). -/
def execPopDe (s : State) : Result := popPair .de s

/-- JP NC,a16, D2 (R175). -/
def execJpNcA16 (a16 : Word16) (s : State) : Result := jumpIf .nc a16 s

/-- CALL NC,a16, D4 (R180). -/
def execCallNcA16 (a16 : Word16) (s : State) : Result := callIf .nc a16 s

/-- PUSH DE, D5 (R171). -/
def execPushDe (s : State) : Result := pushPair .de s

/-- RST $10, D7 (R184). -/
def execRst10 (s : State) : Result := restart 0x10#8 s

/-- RET C, D8 (R182). -/
def execRetC (s : State) : Result := retIf .c s

/-- RETI, D9 (R183). -/
def execReti (s : State) : Result := retInterrupt s

/-- JP C,a16, DA (R175). -/
def execJpCA16 (a16 : Word16) (s : State) : Result := jumpIf .c a16 s

/-- CALL C,a16, DC (R180). -/
def execCallCA16 (a16 : Word16) (s : State) : Result := callIf .c a16 s

/-- RST $18, DF (R184). -/
def execRst18 (s : State) : Result := restart 0x18#8 s

/-- POP HL, E1 (R172). -/
def execPopHl (s : State) : Result := popPair .hl s

/-- PUSH HL, E5 (R171). -/
def execPushHl (s : State) : Result := pushPair .hl s

/-- RST $20, E7 (R184). -/
def execRst20 (s : State) : Result := restart 0x20#8 s

/-- JP HL, E9 (R176). -/
def execJpHl (s : State) : Result := jumpHl s

/-- RST $28, EF (R184). -/
def execRst28 (s : State) : Result := restart 0x28#8 s

/-- POP AF, F1 (R172). -/
def execPopAf (s : State) : Result := popPair .af s

/-- PUSH AF, F5 (R171). -/
def execPushAf (s : State) : Result := pushPair .af s

/-- RST $30, F7 (R184). -/
def execRst30 (s : State) : Result := restart 0x30#8 s

/-- RST $38, FF (R184). -/
def execRst38 (s : State) : Result := restart 0x38#8 s

end Sys2Proof.Machine
end

