-- ==== Sys2Proof/Machine/Illegal.lean ====
section
/-! DEFINITION. The eleven illegal bytes (R75, R231): each takes the decode fault, whose record is State's field `fault`.
The state after it is a next state; every later step from it reports the fault (R31). -/

namespace Sys2Proof.Machine

/-! ## Shared operations -/

/-- Decoding an illegal opcode (R231): no cycles are added. DESIGN CHOICE (unsafe, log entry 3): the step that decodes it
answers a next state with the fault recorded, where R231 has it return Faulted; `stepReturn` gives that value. -/
def illegalOpcode (byte : Byte) (s : State) : Result := .next (s.decodeFault byte)

/-! ## The meanings, one per row of the opcode table -/

/-- ILLEGAL_D3, D3 (R231). -/
def execIllegalD3 (s : State) : Result := illegalOpcode 0xD3#8 s

/-- ILLEGAL_DB, DB (R231). -/
def execIllegalDB (s : State) : Result := illegalOpcode 0xDB#8 s

/-- ILLEGAL_DD, DD (R231). -/
def execIllegalDD (s : State) : Result := illegalOpcode 0xDD#8 s

/-- ILLEGAL_E3, E3 (R231). -/
def execIllegalE3 (s : State) : Result := illegalOpcode 0xE3#8 s

/-- ILLEGAL_E4, E4 (R231). -/
def execIllegalE4 (s : State) : Result := illegalOpcode 0xE4#8 s

/-- ILLEGAL_EB, EB (R231). -/
def execIllegalEB (s : State) : Result := illegalOpcode 0xEB#8 s

/-- ILLEGAL_EC, EC (R231). -/
def execIllegalEC (s : State) : Result := illegalOpcode 0xEC#8 s

/-- ILLEGAL_ED, ED (R231). -/
def execIllegalED (s : State) : Result := illegalOpcode 0xED#8 s

/-- ILLEGAL_F4, F4 (R231). -/
def execIllegalF4 (s : State) : Result := illegalOpcode 0xF4#8 s

/-- ILLEGAL_FC, FC (R231). -/
def execIllegalFC (s : State) : Result := illegalOpcode 0xFC#8 s

/-- ILLEGAL_FD, FD (R231). -/
def execIllegalFD (s : State) : Result := illegalOpcode 0xFD#8 s

end Sys2Proof.Machine
end

