-- ==== Sys2Proof/Machine/Loads.lean ====
section
/-! DEFINITION. NOP and the load instructions (R110 to R131). "Load instructions write no flag, and none raises an
exception". Each shared operation takes the state before the fetch. -/

namespace Sys2Proof.Machine

/-! ## Shared operations -/

/-- NOP (R110): nothing but the fetch. -/
def noOperation (s : State) : Result := finish 4 (s.fetched 1)

/-- LD rr,n16 (R111). -/
def loadPairImm (p : Pair) (n16 : Word16) (s : State) : Result := finish 12 ((s.fetched 3).setPair p n16)

/-- LD r,n8 (R118). -/
def loadImm (r : Reg8) (n8 : Byte) (s : State) : Result := finish 8 ((s.fetched 2).setReg r n8)

/-- LD (HL),n8 (R119). -/
def storeImm (n8 : Byte) (s : State) : Result :=
  let s1 := s.fetched 2
  finish 12 (s1.writeByte s1.hl n8)

/-- A store of A in the mode `m` (R112, R114, R115, R124, R126, R128): the write, then the base modification. -/
def storeAccumulator (m : AddrMode) (s : State) : Result :=
  let s1 := s.fetched (modeLength m)
  finish (modeCost m) ((s1.writeByte (s1.effectiveAddress m) (s1.reg .a)).postModify m)

/-- A load of A in the mode `m` (R113, R116, R117, R125, R127, R129): the read, then the base modification. -/
def loadAccumulator (m : AddrMode) (s : State) : Result :=
  let s1 := s.fetched (modeLength m)
  finish (modeCost m) ((s1.setReg .a (s1.readByte (s1.effectiveAddress m))).postModify m)

/-- LD r,r' (R120). -/
def moveReg (dst src : Reg8) (s : State) : Result :=
  let s1 := s.fetched 1
  finish 4 (s1.setReg dst (s1.reg src))

/-- LD r,(HL) (R121). -/
def loadIndirect (r : Reg8) (s : State) : Result :=
  let s1 := s.fetched 1
  finish 8 (s1.setReg r (s1.readByte s1.hl))

/-- LD (HL),r (R122). -/
def storeIndirect (r : Reg8) (s : State) : Result :=
  let s1 := s.fetched 1
  finish 8 (s1.writeByte s1.hl (s1.reg r))

/-- LD (a16),SP (R123): MemWrite(a16, 2, SP). -/
def storeSp (a16 : Word16) (s : State) : Result :=
  let s1 := s.fetched 3
  finish 20 (s1.writeWord a16 s1.sp)

/-- LD SP,HL (R130). -/
def loadSpHl (s : State) : Result :=
  let s1 := s.fetched 1
  finish 8 { s1 with sp := s1.hl }

/-! ## The meanings, one per row of the opcode table -/

/-- NOP, 00 (R110). -/
def execNop (s : State) : Result := noOperation s

/-- LD BC,n16, 01 (R111). -/
def execLdBcN16 (n16 : Word16) (s : State) : Result := loadPairImm .bc n16 s

/-- LD (BC),A, 02 (R112). -/
def execLdAtBcA (s : State) : Result := storeAccumulator .atBc s

/-- LD B,n8, 06 (R118). -/
def execLdBN8 (n8 : Byte) (s : State) : Result := loadImm .b n8 s

/-- LD (a16),SP, 08 (R123). -/
def execLdAtA16Sp (a16 : Word16) (s : State) : Result := storeSp a16 s

/-- LD A,(BC), 0A (R113). -/
def execLdAAtBc (s : State) : Result := loadAccumulator .atBc s

/-- LD C,n8, 0E (R118). -/
def execLdCN8 (n8 : Byte) (s : State) : Result := loadImm .c n8 s

/-- LD DE,n16, 11 (R111). -/
def execLdDeN16 (n16 : Word16) (s : State) : Result := loadPairImm .de n16 s

/-- LD (DE),A, 12 (R112). -/
def execLdAtDeA (s : State) : Result := storeAccumulator .atDe s

/-- LD D,n8, 16 (R118). -/
def execLdDN8 (n8 : Byte) (s : State) : Result := loadImm .d n8 s

/-- LD A,(DE), 1A (R113). -/
def execLdAAtDe (s : State) : Result := loadAccumulator .atDe s

/-- LD E,n8, 1E (R118). -/
def execLdEN8 (n8 : Byte) (s : State) : Result := loadImm .e n8 s

/-- LD HL,n16, 21 (R111). -/
def execLdHlN16 (n16 : Word16) (s : State) : Result := loadPairImm .hl n16 s

/-- LD (HL+),A, 22 (R114). -/
def execLdAtHlIncA (s : State) : Result := storeAccumulator .atHlInc s

/-- LD H,n8, 26 (R118). -/
def execLdHN8 (n8 : Byte) (s : State) : Result := loadImm .h n8 s

/-- LD A,(HL+), 2A (R116). -/
def execLdAAtHlInc (s : State) : Result := loadAccumulator .atHlInc s

/-- LD L,n8, 2E (R118). -/
def execLdLN8 (n8 : Byte) (s : State) : Result := loadImm .l n8 s

/-- LD SP,n16, 31 (R111). -/
def execLdSpN16 (n16 : Word16) (s : State) : Result := loadPairImm .sp n16 s

/-- LD (HL-),A, 32 (R115). -/
def execLdAtHlDecA (s : State) : Result := storeAccumulator .atHlDec s

/-- LD (HL),n8, 36 (R119). -/
def execLdAtHlN8 (n8 : Byte) (s : State) : Result := storeImm n8 s

/-- LD A,(HL-), 3A (R117). -/
def execLdAAtHlDec (s : State) : Result := loadAccumulator .atHlDec s

/-- LD A,n8, 3E (R118). -/
def execLdAN8 (n8 : Byte) (s : State) : Result := loadImm .a n8 s

/-- LD B,B, 40 (R120). -/
def execLdBB (s : State) : Result := moveReg .b .b s

/-- LD B,C, 41 (R120). -/
def execLdBC (s : State) : Result := moveReg .b .c s

/-- LD B,D, 42 (R120). -/
def execLdBD (s : State) : Result := moveReg .b .d s

/-- LD B,E, 43 (R120). -/
def execLdBE (s : State) : Result := moveReg .b .e s

/-- LD B,H, 44 (R120). -/
def execLdBH (s : State) : Result := moveReg .b .h s

/-- LD B,L, 45 (R120). -/
def execLdBL (s : State) : Result := moveReg .b .l s

/-- LD B,(HL), 46 (R121). -/
def execLdBAtHl (s : State) : Result := loadIndirect .b s

/-- LD B,A, 47 (R120). -/
def execLdBA (s : State) : Result := moveReg .b .a s

/-- LD C,B, 48 (R120). -/
def execLdCB (s : State) : Result := moveReg .c .b s

/-- LD C,C, 49 (R120). -/
def execLdCC (s : State) : Result := moveReg .c .c s

/-- LD C,D, 4A (R120). -/
def execLdCD (s : State) : Result := moveReg .c .d s

/-- LD C,E, 4B (R120). -/
def execLdCE (s : State) : Result := moveReg .c .e s

/-- LD C,H, 4C (R120). -/
def execLdCH (s : State) : Result := moveReg .c .h s

/-- LD C,L, 4D (R120). -/
def execLdCL (s : State) : Result := moveReg .c .l s

/-- LD C,(HL), 4E (R121). -/
def execLdCAtHl (s : State) : Result := loadIndirect .c s

/-- LD C,A, 4F (R120). -/
def execLdCA (s : State) : Result := moveReg .c .a s

/-- LD D,B, 50 (R120). -/
def execLdDB (s : State) : Result := moveReg .d .b s

/-- LD D,C, 51 (R120). -/
def execLdDC (s : State) : Result := moveReg .d .c s

/-- LD D,D, 52 (R120). -/
def execLdDD (s : State) : Result := moveReg .d .d s

/-- LD D,E, 53 (R120). -/
def execLdDE (s : State) : Result := moveReg .d .e s

/-- LD D,H, 54 (R120). -/
def execLdDH (s : State) : Result := moveReg .d .h s

/-- LD D,L, 55 (R120). -/
def execLdDL (s : State) : Result := moveReg .d .l s

/-- LD D,(HL), 56 (R121). -/
def execLdDAtHl (s : State) : Result := loadIndirect .d s

/-- LD D,A, 57 (R120). -/
def execLdDA (s : State) : Result := moveReg .d .a s

/-- LD E,B, 58 (R120). -/
def execLdEB (s : State) : Result := moveReg .e .b s

/-- LD E,C, 59 (R120). -/
def execLdEC (s : State) : Result := moveReg .e .c s

/-- LD E,D, 5A (R120). -/
def execLdED (s : State) : Result := moveReg .e .d s

/-- LD E,E, 5B (R120). -/
def execLdEE (s : State) : Result := moveReg .e .e s

/-- LD E,H, 5C (R120). -/
def execLdEH (s : State) : Result := moveReg .e .h s

/-- LD E,L, 5D (R120). -/
def execLdEL (s : State) : Result := moveReg .e .l s

/-- LD E,(HL), 5E (R121). -/
def execLdEAtHl (s : State) : Result := loadIndirect .e s

/-- LD E,A, 5F (R120). -/
def execLdEA (s : State) : Result := moveReg .e .a s

/-- LD H,B, 60 (R120). -/
def execLdHB (s : State) : Result := moveReg .h .b s

/-- LD H,C, 61 (R120). -/
def execLdHC (s : State) : Result := moveReg .h .c s

/-- LD H,D, 62 (R120). -/
def execLdHD (s : State) : Result := moveReg .h .d s

/-- LD H,E, 63 (R120). -/
def execLdHE (s : State) : Result := moveReg .h .e s

/-- LD H,H, 64 (R120). -/
def execLdHH (s : State) : Result := moveReg .h .h s

/-- LD H,L, 65 (R120). -/
def execLdHL (s : State) : Result := moveReg .h .l s

/-- LD H,(HL), 66 (R121). -/
def execLdHAtHl (s : State) : Result := loadIndirect .h s

/-- LD H,A, 67 (R120). -/
def execLdHA (s : State) : Result := moveReg .h .a s

/-- LD L,B, 68 (R120). -/
def execLdLB (s : State) : Result := moveReg .l .b s

/-- LD L,C, 69 (R120). -/
def execLdLC (s : State) : Result := moveReg .l .c s

/-- LD L,D, 6A (R120). -/
def execLdLD (s : State) : Result := moveReg .l .d s

/-- LD L,E, 6B (R120). -/
def execLdLE (s : State) : Result := moveReg .l .e s

/-- LD L,H, 6C (R120). -/
def execLdLH (s : State) : Result := moveReg .l .h s

/-- LD L,L, 6D (R120). -/
def execLdLL (s : State) : Result := moveReg .l .l s

/-- LD L,(HL), 6E (R121). -/
def execLdLAtHl (s : State) : Result := loadIndirect .l s

/-- LD L,A, 6F (R120). -/
def execLdLA (s : State) : Result := moveReg .l .a s

/-- LD (HL),B, 70 (R122). -/
def execLdAtHlB (s : State) : Result := storeIndirect .b s

/-- LD (HL),C, 71 (R122). -/
def execLdAtHlC (s : State) : Result := storeIndirect .c s

/-- LD (HL),D, 72 (R122). -/
def execLdAtHlD (s : State) : Result := storeIndirect .d s

/-- LD (HL),E, 73 (R122). -/
def execLdAtHlE (s : State) : Result := storeIndirect .e s

/-- LD (HL),H, 74 (R122). -/
def execLdAtHlH (s : State) : Result := storeIndirect .h s

/-- LD (HL),L, 75 (R122). -/
def execLdAtHlL (s : State) : Result := storeIndirect .l s

/-- LD (HL),A, 77 (R122). -/
def execLdAtHlA (s : State) : Result := storeIndirect .a s

/-- LD A,B, 78 (R120). -/
def execLdAB (s : State) : Result := moveReg .a .b s

/-- LD A,C, 79 (R120). -/
def execLdAC (s : State) : Result := moveReg .a .c s

/-- LD A,D, 7A (R120). -/
def execLdAD (s : State) : Result := moveReg .a .d s

/-- LD A,E, 7B (R120). -/
def execLdAE (s : State) : Result := moveReg .a .e s

/-- LD A,H, 7C (R120). -/
def execLdAH (s : State) : Result := moveReg .a .h s

/-- LD A,L, 7D (R120). -/
def execLdAL (s : State) : Result := moveReg .a .l s

/-- LD A,(HL), 7E (R121). -/
def execLdAAtHl (s : State) : Result := loadIndirect .a s

/-- LD A,A, 7F (R120). -/
def execLdAA (s : State) : Result := moveReg .a .a s

/-- LDH (a8),A, E0 (R124). -/
def execLdhAtA8A (a8 : Byte) (s : State) : Result := storeAccumulator (.atA8 a8) s

/-- LDH (C),A, E2 (R126). -/
def execLdhAtCA (s : State) : Result := storeAccumulator .atC s

/-- LD (a16),A, EA (R128). -/
def execLdAtA16A (a16 : Word16) (s : State) : Result := storeAccumulator (.atA16 a16) s

/-- LDH A,(a8), F0 (R125). -/
def execLdhAAtA8 (a8 : Byte) (s : State) : Result := loadAccumulator (.atA8 a8) s

/-- LDH A,(C), F2 (R127). -/
def execLdhAAtC (s : State) : Result := loadAccumulator .atC s

/-- LD SP,HL, F9 (R130). -/
def execLdSpHl (s : State) : Result := loadSpHl s

/-- LD A,(a16), FA (R129). -/
def execLdAAtA16 (a16 : Word16) (s : State) : Result := loadAccumulator (.atA16 a16) s

end Sys2Proof.Machine
end

