-- ==== Sys2Proof/Machine/Misc.lean ====
section
/-! DEFINITION. Accumulator rotates, decimal adjust, the flag instructions, HALT, STOP, DI and EI (R200 to R211). Each
shared operation takes the state before the fetch. -/

namespace Sys2Proof.Machine

/-! ## Shared operations -/

/-- RLCA, RRCA, RLA and RRA (R200, R201, R204, R205). -/
def rotateA (op : RotOp) (s : State) : Result :=
  let s1 := s.fetched 1
  let out := rotate8 op (s1.reg .a) s1.flags.c
  finish 4 ((s1.setReg .a out.1).setFlags (rotateAFlags out.2))

/-- DAA (R206). -/
def decimalAdjust (s : State) : Result :=
  let s1 := s.fetched 1
  let out := daa8 (s1.reg .a) s1.flags
  finish 4 ((s1.setReg .a out.1).setFlags out.2)

/-- CPL (R207): `-11-`. -/
def complementA (s : State) : Result :=
  let s1 := s.fetched 1
  let old := s1.flags
  finish 4 ((s1.setReg .a (~~~(s1.reg .a))).setFlags { z := old.z, n := true, h := true, c := old.c })

/-- SCF (R208): `-001`. -/
def setCarry (s : State) : Result :=
  let s1 := s.fetched 1
  finish 4 (s1.setFlags { z := s1.flags.z, n := false, h := false, c := true })

/-- CCF (R209): `-00C`. -/
def complementCarry (s : State) : Result :=
  let s1 := s.fetched 1
  finish 4 (s1.setFlags { z := s1.flags.z, n := false, h := false, c := !s1.flags.c })

/-- HALT (R202): with IME = 0 and an interrupt pending the halt bug is armed and HALT is not entered. -/
def haltCore (s : State) : Result :=
  let s1 := s.fetched 1
  if s1.ime then finish 4 { s1 with mode := .halted }
  else if s1.pending = 0x00#8 then finish 4 { s1 with mode := .halted }
  else finish 4 { s1 with haltBug := true }

/-- STOP (R203): "the second byte is ignored". -/
def stopCore (_n8 : Byte) (s : State) : Result := finish 4 { s.fetched 2 with mode := .stopped }

/-- DI (R210). -/
def disableInterrupts (s : State) : Result := finish 4 { s.fetched 1 with ime := false, eiPending := false }

/-- EI (R211): IME becomes 1 at the end of the next instruction (`State.afterInstruction`, R54). -/
def enableInterrupts (s : State) : Result := finish 4 { s.fetched 1 with eiPending := true }

/-! ## The meanings, one per row of the opcode table -/

/-- RLCA, 07 (R200). -/
def execRlca (s : State) : Result := rotateA .rlc s

/-- RRCA, 0F (R201). -/
def execRrca (s : State) : Result := rotateA .rrc s

/-- STOP, 10 (R203). -/
def execStop (n8 : Byte) (s : State) : Result := stopCore n8 s

/-- RLA, 17 (R204). -/
def execRla (s : State) : Result := rotateA .rl s

/-- RRA, 1F (R205). -/
def execRra (s : State) : Result := rotateA .rr s

/-- DAA, 27 (R206). -/
def execDaa (s : State) : Result := decimalAdjust s

/-- CPL, 2F (R207). -/
def execCpl (s : State) : Result := complementA s

/-- SCF, 37 (R208). -/
def execScf (s : State) : Result := setCarry s

/-- CCF, 3F (R209). -/
def execCcf (s : State) : Result := complementCarry s

/-- HALT, 76 (R202). -/
def execHalt (s : State) : Result := haltCore s

/-- DI, F3 (R210). -/
def execDi (s : State) : Result := disableInterrupts s

/-- EI, FB (R211). -/
def execEi (s : State) : Result := enableInterrupts s

end Sys2Proof.Machine
end

