-- ==== Sys2Proof/Machine/Prefix.lean ====
section
/-! DEFINITION. The row PREFIX CB (R55): "the dispatcher fetches the second byte with Fetch8 and executes the CB
instruction it selects". -/

namespace Sys2Proof.Machine

/-! ## Shared operations -/

/-- The CB instruction a second byte selects, by its fields (R74). -/
def runCb (op2 : Byte) (s : State) : Result :=
  match fieldX op2 with
  | 0#2 => rotateOperand (rotField (fieldY op2)) (operandField (fieldZ op2)) s
  | 1#2 => testBit (fieldY op2) (operandField (fieldZ op2)) s
  | 2#2 => resetBit (fieldY op2) (operandField (fieldZ op2)) s
  | _ => setBit (fieldY op2) (operandField (fieldZ op2)) s

/-- The prefix with the byte the second Fetch8 reads, in one step with one cost (R55; a bare prefix as an instruction of its
own is a DESIGN CHOICE, log entry 7). -/
def runCbPrefix (s : State) : Result := runCb s.fetch8.2.fetch8.1 s

/-! ## The meanings, one per row of the opcode table -/

/-- PREFIX CB, CB (R55). -/
def execPrefixCb (s : State) : Result := runCbPrefix s

end Sys2Proof.Machine
end

