-- ==== Sys2Proof/Machine/Boundary.lean ====
section
/-! DEFINITION. What a step of a running core does at its instruction boundary: an interrupt entry if one is due, and
otherwise one instruction (arms 4 to 6 of R52). -/

namespace Sys2Proof.Machine

/-- One instruction with the delayed effect of a previous EI after it (arms 5 and 6 of R52, R54). -/
def runInstruction (s : State) : Result :=
  match exec s.nextInstr s with
  | .next t => .next (t.afterInstruction s.eiPending)
  | .fault r => .fault r
  | .refused r => .refused r

/-- Arms 4 to 6 of R52: "an interrupt is entered only if IME = 1 and pending != 0" (R234), and then in place of the next
instruction (R240). -/
def stepBoundary (s : State) : Result :=
  if s.ime && s.pending != 0x00#8 then finish 20 (s.interruptEntry (lowestPending s.pending))
  else runInstruction s

/-- The state in which the very next step fetches and runs an instruction at PC: not faulted, in mode RUN, with no armed
halt bug, and with no interrupt due. -/
def State.readyToFetch (s : State) : State :=
  let s1 := { s with fault := none, mode := .run, haltBug := false }
  if s1.ime && s1.pending != 0x00#8 then { s1 with ime := false } else s1

end Sys2Proof.Machine
end

