-- ==== Sys2Proof/Machine/Step.lean ====
section
/-! DEFINITION. One step of the core (R52), and the placing of an instruction where the next step fetches. -/

namespace Sys2Proof.Machine

/-- The dispatcher's step (R52). A faulted core stays faulted and reports the fault (R31); a stopped core idles; a halted
core idles until an interrupt is pending and then goes on in the same step; a running core enters a due interrupt or
runs one instruction. The cost a step returns is what it adds to `cycles` (R53). -/
def step (s : State) : Host.Outcome State Fault Refusal :=
  match s.fault with
  | some f => .fault f
  | none =>
    match s.mode with
    | .stopped => finish 4 s
    | .halted => if s.pending = 0x00#8 then finish 4 s else stepBoundary { s with mode := .run }
    | .run => stepBoundary s

/-- `s` with the instruction of a word of the opcode table stored at PC, bytes of zero after it up to the three bytes of
the longest instruction, and ready to fetch it (log entry 6). -/
def State.withFetchWord (s : State) (nbits w : Nat) : State :=
  State.readyToFetch (s.placeBytes s.pc ((tableBytes nbits w ++ [0x00#8, 0x00#8]).take 3))

end Sys2Proof.Machine
end

