-- ==== Sys2Proof/Machine/HostPort.lean ====
section
/-! DEFINITION. The host's side of the core (R57): what a step returns, and the host's operations between steps. -/

namespace Sys2Proof.Machine

/-- What `step()` returns to the host (R57): the cost of what it did, or the decode fault. -/
inductive StepReturn where
  | ok (cost : Nat)
  | faulted (fault : Fault)
  deriving DecidableEq, Repr

/-- The value a step returns (R52, R57), read off the states (DEDUCED, log entry 4). An illegal opcode's step answers a next
state whose `fault` is set (log entry 3), and returns that fault; a step from a faulted state answers the fault itself. Any other step returns what it added to `cycles`. -/
def stepReturn (s : State) : Option StepReturn :=
  match step s with
  | .next t =>
    match t.fault with
    | some f => some (.faulted f)
    | none => some (.ok (t.cycles - s.cycles))
  | .fault f => some (.faulted f)
  | .refused _ => none

/-- `wake()` (R57): mode STOPPED to RUN, nothing in other modes. -/
def State.wake (s : State) : State :=
  match s.mode with
  | .stopped => { s with mode := .run }
  | .halted => s
  | .run => s

/-- The host's operations that change the core between steps (R57). -/
inductive HostAction where
  /-- a new instance: the only reset (R250) -/
  | create (image : List (Word16 × Byte)) (resetPc resetSp : Word16)
  /-- one byte of `mem` written between steps (decision D11): the way a peripheral's request reaches IF (R238) -/
  | writeMem (addr : Word16) (value : Byte)
  /-- the wake event (decision D14) -/
  | wake
  deriving DecidableEq, Repr

/-- The state after a host's operation (R57). -/
def State.afterHost (s : State) (act : HostAction) : State :=
  match act with
  | .create image resetPc resetSp => State.create image resetPc resetSp
  | .writeMem addr value => s.writeByte addr value
  | .wake => s.wake

end Sys2Proof.Machine
end

