-- ==== Sys2Proof/Safety.lean ====
section
/-! DEFINITION. The terms claims about the machine are stated in: the invariant of every reachable state, what it means
that a state keeps everything but some named parts, when a step runs an instruction, and what a safe run is. -/

namespace Sys2Proof.Machine

/-! ## The invariant -/

/-- What every step and every host action keeps. -/
structure State.Inv (s : State) : Prop where
  /-- the bus store is in its canonical form -/
  memory : Memory.wf s.mem = true
  /-- "The low nibble of F is always zero." (R21) -/
  lowNibble : s.f &&& 0x0F#8 = 0x00#8
  /-- the halt bug is armed only by a HALT that did not halt (R29, R202) -/
  haltBug : s.haltBug = true → s.mode = .run
  /-- a recorded fault names one of the eleven illegal bytes (R231) -/
  fault : ∀ (addr : Word16) (byte : Byte), s.fault = some (.illegalOpcode addr byte) → byte ∈ illegalBytes ∧ s.mode = .run

/-! ## Frames -/

/-- The parts of the state other than memory, the flags one by one. -/
inductive Part where
  | regA | regB | regC | regD | regE | regH | regL
  | flagZ | flagN | flagH | flagC
  /-- bits 3..0 of F -/
  | fLow
  | sp | pc | ime | eiPending | mode | haltBug | cycles | fault
  deriving DecidableEq, Repr

/-- A part has the same value in two states. -/
def Part.same (p : Part) (s t : State) : Prop :=
  match p with
  | .regA => t.reg .a = s.reg .a
  | .regB => t.reg .b = s.reg .b
  | .regC => t.reg .c = s.reg .c
  | .regD => t.reg .d = s.reg .d
  | .regE => t.reg .e = s.reg .e
  | .regH => t.reg .h = s.reg .h
  | .regL => t.reg .l = s.reg .l
  | .flagZ => t.flags.z = s.flags.z
  | .flagN => t.flags.n = s.flags.n
  | .flagH => t.flags.h = s.flags.h
  | .flagC => t.flags.c = s.flags.c
  | .fLow => t.f &&& 0x0F#8 = s.f &&& 0x0F#8
  | .sp => t.sp = s.sp
  | .pc => t.pc = s.pc
  | .ime => t.ime = s.ime
  | .eiPending => t.eiPending = s.eiPending
  | .mode => t.mode = s.mode
  | .haltBug => t.haltBug = s.haltBug
  | .cycles => t.cycles = s.cycles
  | .fault => t.fault = s.fault

/-- Every part but the named ones is unchanged. -/
def KeepsAllBut (ps : List Part) (s t : State) : Prop := ∀ p : Part, p ∉ ps → p.same s t

/-- Every byte of memory but those at the named addresses is unchanged. -/
def KeepsMemoryBut (addrs : List Word16) (s t : State) : Prop :=
  ∀ a : Word16, a ∉ addrs → t.readByte a = s.readByte a

/-- Every byte of memory is unchanged. -/
def KeepsMemory (s t : State) : Prop := ∀ a : Word16, t.readByte a = s.readByte a

/-- The part an 8-bit register is. -/
def regPart (r : Reg8) : Part :=
  match r with
  | .a => .regA
  | .b => .regB
  | .c => .regC
  | .d => .regD
  | .e => .regE
  | .h => .regH
  | .l => .regL

/-- The parts a register of the field rr is. -/
def pairParts (p : Pair) : List Part :=
  match p with
  | .bc => [.regB, .regC]
  | .de => [.regD, .regE]
  | .hl => [.regH, .regL]
  | .sp => [.sp]

/-- The flags register. -/
def flagParts : List Part := [.flagZ, .flagN, .flagH, .flagC, .fLow]

/-- The parts a pair of the field rr2 is. -/
def stackPairParts (q : StackPair) : List Part :=
  match q with
  | .bc => [.regB, .regC]
  | .de => [.regD, .regE]
  | .hl => [.regH, .regL]
  | .af => .regA :: flagParts

/-- The parts an operand r is, when it is written. -/
def operandParts (o : Operand8) : List Part :=
  match o with
  | .reg r => [regPart r]
  | .atHl => []

/-- The addresses an operand r is, when it is written. -/
def operandAddrs (o : Operand8) (s : State) : List Word16 :=
  match o with
  | .reg _ => []
  | .atHl => [s.hl]

/-- What every instruction changes: PC by its fetches, the halt bug they clear, and the cycle count. -/
def stepParts : List Part := [.pc, .haltBug, .cycles]

/-- PC after the `n` fetches of an instruction (R24), one less where the halt bug holds the first (R50). -/
def State.pcAfter (s : State) (n : Nat) : Word16 :=
  if s.haltBug then s.pc + BitVec.ofNat 16 n - 1#16 else s.pc + BitVec.ofNat 16 n

/-- An instruction of `n` bytes without a control transfer has run at the given cost. -/
structure Advanced (n cost : Nat) (s t : State) : Prop where
  pc : t.pc = s.pcAfter n
  haltBug : t.haltBug = false
  cycles : t.cycles = s.cycles + cost

/-- A control transfer to `target` has run at the given cost. -/
structure Transferred (target : Word16) (cost : Nat) (s t : State) : Prop where
  pc : t.pc = target
  haltBug : t.haltBug = false
  cycles : t.cycles = s.cycles + cost

/-- The flags register holds these flags, and zero below them. -/
structure FlagsAre (x : Flags) (t : State) : Prop where
  flags : t.flags = x
  low : t.f &&& 0x0F#8 = 0x00#8

/-! ## When a step does what -/

/-- "an interrupt is entered only if IME = 1 and pending != 0" (R234). -/
def State.InterruptDue (s : State) : Prop := s.ime = true ∧ s.pending ≠ 0x00#8

/-- A step from `s` reaches the instruction boundary: no fault, not stopped, and not idle in HALTED (R52). -/
def State.Awake (s : State) : Prop := s.fault = none ∧ (s.mode = .run ∨ (s.mode = .halted ∧ s.pending ≠ 0x00#8))

/-- The three bytes the next fetches read, the first one twice where the halt bug is armed (R50). -/
def State.streamBytes (s : State) : List Byte :=
  if s.haltBug then [s.readByte s.pc, s.readByte s.pc, s.readByte (s.pc + 1#16)]
  else [s.readByte s.pc, s.readByte (s.pc + 1#16), s.readByte (s.pc + 2#16)]

/-- A step from `s` runs the instruction `i`: the boundary is reached, no interrupt is due, and the bytes at PC decode to
`i`. -/
def State.Runs (s : State) (i : Instr) : Prop :=
  s.Awake ∧ ¬s.InterruptDue ∧ ∃ rest : List Byte, decode s.streamBytes = .ok (i, rest)

/-- The idle end of R259: every later step costs 4 and changes nothing else. -/
def State.Idle (s : State) : Prop :=
  s.fault = none ∧ (s.mode = .stopped ∨ (s.mode = .halted ∧ s.pending = 0x00#8))

/-- A safe run of `k` steps: each answers a next state, and none of the states is faulted (R259 takes "fault = none" as a
premise or a conclusion). -/
def SafeFor (k : Nat) (s : State) : Prop :=
  match k with
  | 0 => s.fault = none
  | n + 1 => s.fault = none ∧ ∃ t : State, step s = .next t ∧ SafeFor n t

end Sys2Proof.Machine
end

