-- ==== Sys2Proof/Certificates/Slice0/Obligations.lean ====
section
/-! DEFINITION. The statements for the provers. Each says what it formalises; the names under `Claims` are the spec's own
tables and formulas, written here anew so that a statement does not rest on the model's text. -/

namespace Sys2Proof.Claims

open Sys2Proof.Machine

/-- A byte from a number. -/
def byte (n : Nat) : Byte := BitVec.ofNat 8 n

/-- A word's bytes in the instruction stream (R68): "n16 = byte3 ++ byte2". -/
def wordBytes (w : Word16) : List Byte := [byte (w.toNat % 256), byte (w.toNat / 256)]

/-- `hi ++ lo` as a number (R11): "hi * 256 + lo". -/
def word (hi lo : Byte) : Word16 := BitVec.ofNat 16 (hi.toNat * 256 + lo.toNat)

/-- The codes of the register field (R62). -/
def regCode (r : Reg8) : Nat :=
  match r with
  | .b => 0
  | .c => 1
  | .d => 2
  | .e => 3
  | .h => 4
  | .l => 5
  | .a => 7

/-- The codes of the whole field r (R62): 6 is the byte at HL. -/
def operandCode (o : Operand8) : Nat :=
  match o with
  | .reg r => regCode r
  | .atHl => 6

/-- The codes of the field rr (R63). -/
def pairCode (p : Pair) : Nat :=
  match p with
  | .bc => 0
  | .de => 1
  | .hl => 2
  | .sp => 3

/-- The codes of the field rr2 (R64). -/
def stackPairCode (q : StackPair) : Nat :=
  match q with
  | .bc => 0
  | .de => 1
  | .hl => 2
  | .af => 3

/-- The codes of the field cc (R65). -/
def condCode (cc : Cond) : Nat :=
  match cc with
  | .nz => 0
  | .z => 1
  | .nc => 2
  | .c => 3

/-- When a condition holds (R65, R173). -/
def holds (cc : Cond) (x : Flags) : Bool :=
  match cc with
  | .nz => !x.z
  | .z => x.z
  | .nc => !x.c
  | .c => x.c

/-- The codes of the field rot (R67). -/
def rotCode (op : RotOp) : Nat :=
  match op with
  | .rlc => 0
  | .rrc => 1
  | .rl => 2
  | .rr => 3
  | .sla => 4
  | .sra => 5
  | .swap => 6
  | .srl => 7

/-- The encoding of an 8-bit ALU instruction by the form of its source (R140). -/
def aluBytes (alu : Nat) (src : Source) : List Byte :=
  match src with
  | .reg r => [byte (0x80 + 8 * alu + regCode r)]
  | .atHl => [byte (0x80 + 8 * alu + 6)]
  | .imm n8 => [byte (0xC6 + 8 * alu), n8]

/-- The source value of an 8-bit ALU instruction (R140). -/
def sourceValue (src : Source) (s : State) : Byte :=
  match src with
  | .reg r => s.reg r
  | .atHl => s.readByte s.hl
  | .imm n8 => n8

/-- The length of an 8-bit ALU instruction (R140). -/
def aluLength (src : Source) : Nat :=
  match src with
  | .reg _ => 1
  | .atHl => 1
  | .imm _ => 2

/-- The cost of an 8-bit ALU instruction (R140). -/
def aluCycles (src : Source) : Nat :=
  match src with
  | .reg _ => 4
  | .atHl => 8
  | .imm _ => 8

/-- The value of an operand r (R62, R260). -/
def operandValue (o : Operand8) (s : State) : Byte :=
  match o with
  | .reg r => s.reg r
  | .atHl => s.readByte s.hl

/-- The cost of a form with a register operand and of the one with (HL). -/
def operandCycles (o : Operand8) (register memory : Nat) : Nat :=
  match o with
  | .reg _ => register
  | .atHl => memory

/-- The effective address of an addressing mode (R131). -/
def address (m : AddrMode) (s : State) : Word16 :=
  match m with
  | .atBc => s.bc
  | .atDe => s.de
  | .atHlInc => s.hl
  | .atHlDec => s.hl
  | .atA16 a16 => a16
  | .atA8 a8 => BitVec.ofNat 16 (0xFF00 + a8.toNat)
  | .atC => BitVec.ofNat 16 (0xFF00 + (s.reg .c).toNat)

/-- HL after the base modification of an addressing mode (R131). -/
def hlAfter (m : AddrMode) (s : State) : Word16 :=
  match m with
  | .atHlInc => s.hl + 1#16
  | .atHlDec => s.hl - 1#16
  | .atBc => s.hl
  | .atDe => s.hl
  | .atA16 _ => s.hl
  | .atA8 _ => s.hl
  | .atC => s.hl

/-- The parts an addressing mode modifies (R131). -/
def modeParts (m : AddrMode) : List Part :=
  match m with
  | .atHlInc => [.regH, .regL]
  | .atHlDec => [.regH, .regL]
  | .atBc => []
  | .atDe => []
  | .atA16 _ => []
  | .atA8 _ => []
  | .atC => []

/-- The encodings of the stores of A (R112, R114, R115, R124, R126, R128). -/
def storeABytes (m : AddrMode) : List Byte :=
  match m with
  | .atBc => [byte 0x02]
  | .atDe => [byte 0x12]
  | .atHlInc => [byte 0x22]
  | .atHlDec => [byte 0x32]
  | .atA16 a16 => byte 0xEA :: wordBytes a16
  | .atA8 a8 => [byte 0xE0, a8]
  | .atC => [byte 0xE2]

/-- The encodings of the loads of A (R113, R116, R117, R125, R127, R129). -/
def loadABytes (m : AddrMode) : List Byte :=
  match m with
  | .atBc => [byte 0x0A]
  | .atDe => [byte 0x1A]
  | .atHlInc => [byte 0x2A]
  | .atHlDec => [byte 0x3A]
  | .atA16 a16 => byte 0xFA :: wordBytes a16
  | .atA8 a8 => [byte 0xF0, a8]
  | .atC => [byte 0xF2]

/-- The costs of the loads and stores of A (R112 to R117, R124 to R129). -/
def modeCycles (m : AddrMode) : Nat :=
  match m with
  | .atA16 _ => 16
  | .atA8 _ => 12
  | .atBc => 8
  | .atDe => 8
  | .atHlInc => 8
  | .atHlDec => 8
  | .atC => 8

/-- The rotates and shifts as numbers (R101): the result and the bit shifted out, of `x` and the incoming carry. -/
def rotated (op : RotOp) (x : Byte) (c : Bool) : Byte × Bool :=
  let n := x.toNat
  let top := decide (n ≥ 128)
  let bottom := decide (n % 2 = 1)
  match op with
  | .rlc => (byte (2 * n + top.toNat), top)
  | .rrc => (byte (n / 2 + 128 * bottom.toNat), bottom)
  | .rl => (byte (2 * n + c.toNat), top)
  | .rr => (byte (n / 2 + 128 * c.toNat), bottom)
  | .sla => (byte (2 * n), top)
  | .sra => (byte (n / 2 + 128 * top.toNat), bottom)
  | .swap => (byte (n % 16 * 16 + n / 16), false)
  | .srl => (byte (n / 2), bottom)

/-- DAA as numbers (R206): the adjusted A and the new carry. -/
def adjusted (a : Byte) (x : Flags) : Byte × Bool :=
  let n := a.toNat
  if x.n then (a - byte ((if x.c then 0x60 else 0) + (if x.h then 0x06 else 0)), x.c)
  else
    let high := x.c || decide (n > 0x99)
    (byte (n + (if high then 0x60 else 0) + (if x.h || decide (n % 16 > 9) then 0x06 else 0)), high)

/-- Two decimal digits as a byte. -/
def bcd (n : Nat) : Byte := byte (n / 10 * 16 + n % 10)

/-- A signed displacement added to an address (R68): "from -128 to +127". -/
def displaced (a : Word16) (e8 : Byte) : Word16 := a + BitVec.ofInt 16 e8.toInt

/-- The eleven illegal rows with their bytes (R75). -/
def illegalRows : List (Instr × Byte) :=
  [(.illegalD3, 0xD3#8), (.illegalDB, 0xDB#8), (.illegalDD, 0xDD#8), (.illegalE3, 0xE3#8), (.illegalE4, 0xE4#8),
   (.illegalEB, 0xEB#8), (.illegalEC, 0xEC#8), (.illegalED, 0xED#8), (.illegalF4, 0xF4#8), (.illegalFC, 0xFC#8),
   (.illegalFD, 0xFD#8)]

/-- The base cycle table (R58): a figure stands for both when its instruction has one cost; the second figure of a
pair is the cost where the condition does not hold. -/
def baseCycles : List (List (Nat × Nat)) :=
  [[(4, 4), (12, 12), (8, 8), (8, 8), (4, 4), (4, 4), (8, 8), (4, 4), (20, 20), (8, 8), (8, 8), (8, 8), (4, 4), (4, 4), (8, 8), (4, 4)],
   [(4, 4), (12, 12), (8, 8), (8, 8), (4, 4), (4, 4), (8, 8), (4, 4), (12, 12), (8, 8), (8, 8), (8, 8), (4, 4), (4, 4), (8, 8), (4, 4)],
   [(12, 8), (12, 12), (8, 8), (8, 8), (4, 4), (4, 4), (8, 8), (4, 4), (12, 8), (8, 8), (8, 8), (8, 8), (4, 4), (4, 4), (8, 8), (4, 4)],
   [(12, 8), (12, 12), (8, 8), (8, 8), (12, 12), (12, 12), (12, 12), (4, 4), (12, 8), (8, 8), (8, 8), (8, 8), (4, 4), (4, 4), (8, 8), (4, 4)],
   [(4, 4), (4, 4), (4, 4), (4, 4), (4, 4), (4, 4), (8, 8), (4, 4), (4, 4), (4, 4), (4, 4), (4, 4), (4, 4), (4, 4), (8, 8), (4, 4)],
   [(4, 4), (4, 4), (4, 4), (4, 4), (4, 4), (4, 4), (8, 8), (4, 4), (4, 4), (4, 4), (4, 4), (4, 4), (4, 4), (4, 4), (8, 8), (4, 4)],
   [(4, 4), (4, 4), (4, 4), (4, 4), (4, 4), (4, 4), (8, 8), (4, 4), (4, 4), (4, 4), (4, 4), (4, 4), (4, 4), (4, 4), (8, 8), (4, 4)],
   [(8, 8), (8, 8), (8, 8), (8, 8), (8, 8), (8, 8), (4, 4), (8, 8), (4, 4), (4, 4), (4, 4), (4, 4), (4, 4), (4, 4), (8, 8), (4, 4)],
   [(4, 4), (4, 4), (4, 4), (4, 4), (4, 4), (4, 4), (8, 8), (4, 4), (4, 4), (4, 4), (4, 4), (4, 4), (4, 4), (4, 4), (8, 8), (4, 4)],
   [(4, 4), (4, 4), (4, 4), (4, 4), (4, 4), (4, 4), (8, 8), (4, 4), (4, 4), (4, 4), (4, 4), (4, 4), (4, 4), (4, 4), (8, 8), (4, 4)],
   [(4, 4), (4, 4), (4, 4), (4, 4), (4, 4), (4, 4), (8, 8), (4, 4), (4, 4), (4, 4), (4, 4), (4, 4), (4, 4), (4, 4), (8, 8), (4, 4)],
   [(4, 4), (4, 4), (4, 4), (4, 4), (4, 4), (4, 4), (8, 8), (4, 4), (4, 4), (4, 4), (4, 4), (4, 4), (4, 4), (4, 4), (8, 8), (4, 4)],
   [(20, 8), (12, 12), (16, 12), (16, 16), (24, 12), (16, 16), (8, 8), (16, 16), (20, 8), (16, 16), (16, 12), (0, 0), (24, 12), (24, 24), (8, 8), (16, 16)],
   [(20, 8), (12, 12), (16, 12), (0, 0), (24, 12), (16, 16), (8, 8), (16, 16), (20, 8), (16, 16), (16, 12), (0, 0), (24, 12), (0, 0), (8, 8), (16, 16)],
   [(12, 12), (12, 12), (8, 8), (0, 0), (0, 0), (16, 16), (8, 8), (16, 16), (16, 16), (4, 4), (16, 16), (0, 0), (0, 0), (0, 0), (8, 8), (16, 16)],
   [(12, 12), (12, 12), (8, 8), (4, 4), (0, 0), (16, 16), (8, 8), (16, 16), (12, 12), (8, 8), (16, 16), (4, 4), (0, 0), (0, 0), (8, 8), (16, 16)]]

/-- The cost of a base opcode byte (R53, R58). -/
def baseCost (op : Byte) (x : Flags) : Nat :=
  let entry := (baseCycles.getD (op.toNat / 16) []).getD (op.toNat % 16) (0, 0)
  let cc : Cond :=
    match op.toNat / 8 % 4 with
    | 0 => .nz
    | 1 => .z
    | 2 => .nc
    | _ => .c
  if holds cc x then entry.1 else entry.2

/-- The cost of a CB opcode byte (R53, R59): "The register forms cost 8. The (HL) forms cost 16, except BIT b,(HL), which
costs 12." -/
def cbCycles (op2 : Byte) : Nat :=
  if op2.toNat % 8 = 6 then (if op2.toNat / 64 = 1 then 12 else 16) else 8

/-- The cost of an instruction by its bytes (R53). -/
def tableCost (bytes : List Byte) (x : Flags) : Nat :=
  match bytes with
  | [] => 0
  | b0 :: rest => if b0 = 0xCB#8 then cbCycles (rest.getD 0 0x00#8) else baseCost b0 x

/-- The first bytes of the instructions that overwrite PC (R174 to R184). -/
def transferBytes : List Byte :=
  [0xC3#8, 0xC2#8, 0xCA#8, 0xD2#8, 0xDA#8, 0xE9#8, 0x18#8, 0x20#8, 0x28#8, 0x30#8, 0x38#8, 0xCD#8, 0xC4#8, 0xCC#8,
   0xD4#8, 0xDC#8, 0xC9#8, 0xC0#8, 0xC8#8, 0xD0#8, 0xD8#8, 0xD9#8, 0xC7#8, 0xCF#8, 0xD7#8, 0xDF#8, 0xE7#8, 0xEF#8,
   0xF7#8, 0xFF#8]

end Sys2Proof.Claims

open Sys2Proof Sys2Proof.Machine Sys2Proof.Claims

/-! ## Encoding and decoding -/

/-- Every whole instruction decodes from its own bytes, whatever follows them. -/
def Obligations.DecodeOfEncodeIsIdentity : Prop :=
  ∀ (i : Instr) (rest : List Byte), i.WellFormed → decode (i.encode ++ rest) = .ok (i, rest)

/-- Every three bytes of the stream decode to a whole instruction, and its encoding is as many of those bytes as R73's
length map gives for the first. -/
def Obligations.EncodeOfDecodeIsTheStream : Prop :=
  ∀ b0 b1 b2 : Byte, (decodeWindow b0 b1 b2).WellFormed ∧
    (decodeWindow b0 b1 b2).encode = [b0, b1, b2].take (lengthOfFirstByte b0)

/-- Words written out from the spec's encodings, one or more for each family. -/
def Obligations.WrittenWordsDecode : Prop :=
  decode [0x00#8] = .ok (.nop, []) ∧
  decode [0x21#8, 0x34#8, 0x12#8] = .ok (.ldHlN16 0x1234#16, []) ∧
  decode [0x3E#8, 0x05#8] = .ok (.ldAN8 0x05#8, []) ∧
  decode [0x3C#8] = .ok (.incA, []) ∧
  decode [0x66#8] = .ok (.ldHAtHl, []) ∧
  decode [0x76#8] = .ok (.halt, []) ∧
  decode [0x10#8, 0x00#8] = .ok (.stop 0x00#8, []) ∧
  decode [0x27#8] = .ok (.daa, []) ∧
  decode [0x8B#8] = .ok (.adcAE, []) ∧
  decode [0xFE#8, 0x40#8] = .ok (.cpN8 0x40#8, []) ∧
  decode [0x39#8] = .ok (.addHlSp, []) ∧
  decode [0xC5#8] = .ok (.pushBc, []) ∧
  decode [0xF1#8] = .ok (.popAf, []) ∧
  decode [0xCD#8, 0x00#8, 0x02#8] = .ok (.callA16 0x0200#16, []) ∧
  decode [0x20#8, 0xFB#8] = .ok (.jrNzE8 0xFB#8, []) ∧
  decode [0xEF#8] = .ok (.rst28, []) ∧
  decode [0xD9#8] = .ok (.reti, []) ∧
  decode [0xD3#8] = .ok (.illegalD3, []) ∧
  decode [0xCB#8, 0x37#8] = .ok (.swapA, []) ∧
  decode [0xCB#8, 0x7C#8] = .ok (.bit7H, []) ∧
  decode [0xCB#8, 0xCB#8] = .ok (.set1E, [])

/-- R75: the eleven bytes, and only they, decode to the illegal rows, each to its own. -/
def Obligations.IllegalBytesAreTheEleven : Prop :=
  ∀ b0 b1 b2 : Byte,
    ((∃ i : Instr, (i, b0) ∈ illegalRows ∧ decodeWindow b0 b1 b2 = i) ↔
      b0 ∈ [0xD3#8, 0xDB#8, 0xDD#8, 0xE3#8, 0xE4#8, 0xEB#8, 0xEC#8, 0xED#8, 0xF4#8, 0xFC#8, 0xFD#8]) ∧
    (∀ i : Instr, ∀ b : Byte, (i, b) ∈ illegalRows → decodeWindow b0 b1 b2 = i → b0 = b)

/-- R55: the prefix executes the CB instruction that the byte of the second Fetch8 selects, at the cost of the CB cycle
table's entry. The bare prefix as a constructor of its own is the model's form (log entry 7). -/
def Obligations.PrefixRunsTheSelectedCbInstruction : Prop :=
  ∀ s : State,
    let op2 := s.streamBytes.getD 1 0x00#8
    exec .prefixCb s = exec (decodeWindow 0xCB#8 op2 0x00#8) s ∧
    (decodeWindow 0xCB#8 op2 0x00#8).encode = [0xCB#8, op2] ∧
    ∃ t : State, exec .prefixCb s = .next t ∧ Advanced 2 (cbCycles op2) s t

/-! ## Memory, registers, reset -/

/-- R41: a byte reads back as written, and a write has no other effect. -/
def Obligations.ByteAccessReadsBack : Prop :=
  ∀ (s : State) (a : Word16) (v : Byte),
    (s.writeByte a v).readByte a = v ∧ KeepsMemoryBut [a] s (s.writeByte a v) ∧ KeepsAllBut [] s (s.writeByte a v)

/-- R42: word accesses are two consecutive little-endian byte accesses, the second address modulo 2^16. -/
def Obligations.WordAccessIsLittleEndian : Prop :=
  ∀ (s : State) (a : Word16) (v : Word16),
    (s.readWord a) = word (s.readByte (a + 1#16)) (s.readByte a) ∧
    (s.writeWord a v).readWord a = v ∧
    (s.writeWord a v).readByte a = byte (v.toNat % 256) ∧
    (s.writeWord a v).readByte (a + 1#16) = byte (v.toNat / 256) ∧
    (s.writeWord 0xFFFF#16 v).readByte 0x0000#16 = byte (v.toNat / 256) ∧
    KeepsMemoryBut [a, a + 1#16] s (s.writeWord a v) ∧ KeepsAllBut [] s (s.writeWord a v)

/-- Memories in canonical form (the model's form of `mem`, log entry 2) that read the same at every address are the same
data. -/
def Obligations.EqualReadsAreEqualMemories : Prop :=
  ∀ s t : State, Memory.wf s.mem = true → Memory.wf t.mem = true →
    (∀ a : Word16, s.readByte a = t.readByte a) → s.mem = t.mem

/-- R16 to R18: each pair is its two views, and a write of a view sets it and disturbs no other. -/
def Obligations.ViewsAreIndependent : Prop :=
  ∀ (s : State) (r : Reg8) (v : Byte),
    s.af = word (s.reg .a) s.f ∧ s.bc = word (s.reg .b) (s.reg .c) ∧ s.de = word (s.reg .d) (s.reg .e) ∧
    s.hl = word (s.reg .h) (s.reg .l) ∧
    (s.setReg r v).reg r = v ∧ (∀ r' : Reg8, r' ≠ r → (s.setReg r v).reg r' = s.reg r') ∧
    KeepsAllBut [regPart r] s (s.setReg r v) ∧ (s.setReg r v).mem = s.mem

/-- R21: every write of F, by its view or with the whole pair AF, stores `v & 0xF0`, A's view being the other byte; and F
reads with bits 3..0 zero in every state that meets the invariant. -/
def Obligations.LowNibbleOfFIsZero : Prop :=
  ∀ (s : State) (v : Byte) (w : Word16),
    (s.setF v).f = v &&& 0xF0#8 ∧ (s.setF v).reg .a = s.reg .a ∧
    (s.setStackPair .af w).af = w &&& 0xFFF0#16 ∧
    (s.setF v).flags = { z := v.getLsbD 7, n := v.getLsbD 6, h := v.getLsbD 5, c := v.getLsbD 4 } ∧
    (s.Inv → s.f.toNat % 16 = 0)

/-- `create` gives every field of R34's reset table, for every image, the empty one included, and every RESET_PC and RESET_SP
(R34, R250). How memory is given is the model's choice (log entry 2), where the spec's MEM0 is a function: an image is a
list of bytes, the one it names last for an address is what memory holds there, and an address it does not name reads
the background; every MEM0 is the memory of some image. -/
def Obligations.CreateGivesTheResetTable : Prop :=
  (∀ (image : List (Word16 × Byte)) (resetPc resetSp : Word16),
    let s := State.create image resetPc resetSp
    (∀ r : Reg8, s.reg r = 0x00#8) ∧ s.af = 0x0000#16 ∧ s.bc = 0x0000#16 ∧ s.de = 0x0000#16 ∧ s.hl = 0x0000#16 ∧
    s.flags = { z := false, n := false, h := false, c := false } ∧
    s.pc = resetPc ∧ s.sp = resetSp ∧ s.ime = false ∧ s.eiPending = false ∧ s.mode = .run ∧ s.haltBug = false ∧
    s.cycles = 0 ∧ s.fault = none) ∧
  (∀ (image later : List (Word16 × Byte)) (a : Word16) (v : Byte) (resetPc resetSp : Word16),
    (∀ cell ∈ later, cell.1 ≠ a) → (State.create (image ++ (a, v) :: later) resetPc resetSp).readByte a = v) ∧
  (∀ (image : List (Word16 × Byte)) (a resetPc resetSp : Word16),
    (∀ cell ∈ image, cell.1 ≠ a) → (State.create image resetPc resetSp).readByte a = Memory.background) ∧
  (∀ mem0 : Word16 → Byte, ∃ image : List (Word16 × Byte), ∀ a resetPc resetSp : Word16,
    (State.create image resetPc resetSp).readByte a = mem0 a)

/-! ## The invariant -/

/-- The model's reset state is the creation with no image, RESET_PC 0x0100 (the spec's default, log entry 10) and RESET_SP
0x0000; that SP and that empty memory are the model's choices (log entries 1 and 2). Any other creation differs from it in
PC, SP and memory only, and every creation meets the invariant. -/
def Obligations.ResetMeetsInvariant : Prop :=
  State.reset.Inv ∧ State.reset = State.create [] 0x0100#16 0x0000#16 ∧
  ∀ (image : List (Word16 × Byte)) (resetPc resetSp : Word16),
    (State.create image resetPc resetSp).Inv ∧
    State.create image resetPc resetSp =
      { State.reset with pc := resetPc, sp := resetSp, mem := (State.create image resetPc resetSp).mem }

/-- Every step keeps the invariant: memory stays in canonical form, F's low nibble stays zero, the halt bug is armed only
in mode RUN, and a recorded fault names an illegal byte. -/
def Obligations.StepKeepsInvariant : Prop :=
  ∀ s t : State, s.Inv → step s = .next t → t.Inv

/-! ## The fetch and the step -/

/-- R50, R51: Fetch8 reads the byte at PC and advances PC by 1, unless the halt bug holds it once; Fetch16 is two of them,
low byte first. -/
def Obligations.FetchReadsAtPc : Prop :=
  ∀ s : State,
    s.fetch8.1 = s.readByte s.pc ∧ KeepsAllBut [.pc, .haltBug] s s.fetch8.2 ∧ KeepsMemory s s.fetch8.2 ∧
    s.fetch8.2.haltBug = false ∧ s.fetch8.2.pc = (if s.haltBug then s.pc else s.pc + 1#16) ∧
    s.fetch16.1 = word (s.streamBytes.getD 1 0x00#8) (s.streamBytes.getD 0 0x00#8) ∧
    s.fetch16.2.pc = s.pcAfter 2 ∧ s.fetch16.2.haltBug = false ∧ KeepsAllBut [.pc, .haltBug] s s.fetch16.2 ∧
    KeepsMemory s s.fetch16.2

/-- A step runs the decoded instruction: when the bytes at PC decode to `i` (the first byte read twice where the halt bug
is armed), no fault is recorded, the core is not idle and no interrupt is due, the step is `exec i`, the halted core woken
first, with the delayed effect of a previous EI after it. -/
def Obligations.StepRunsTheDecodedInstruction : Prop :=
  ∀ (s : State) (i : Instr), s.Runs i →
    i.WellFormed ∧
    step s =
      match exec i { s with mode := .run } with
      | .next t =>
        .next (if s.eiPending = true ∧ t.eiPending = true ∧ t.fault = none
          then { t with ime := true, eiPending := false } else t)
      | .fault r => .fault r
      | .refused r => .refused r

/-- IME becomes 1 at the end of the first instruction step that began with ei_pending = 1, unless a DI in it has
cleared ei_pending; the arms that execute no instruction leave ei_pending as it was, interrupt entry clears it (R54, R27).
That the step of an illegal row answers a next state, with IME and ei_pending as they were, is the model's choice of form
(log entry 3; R231 has that step return Faulted). -/
def Obligations.EiTakesEffectAfterTheNextInstruction : Prop :=
  (∀ (s : State) (i : Instr), s.Runs i → s.eiPending = true → (∀ b : Byte, (i, b) ∉ illegalRows) → i ≠ .di →
    ∃ t : State, step s = .next t ∧ t.ime = true ∧ t.eiPending = false) ∧
  (∀ s : State, s.Runs .di → ∃ t : State, step s = .next t ∧ t.ime = false ∧ t.eiPending = false) ∧
  (∀ (s : State) (i : Instr) (b : Byte), s.Runs i → (i, b) ∈ illegalRows →
    ∃ t : State, step s = .next t ∧ t.ime = s.ime ∧ t.eiPending = s.eiPending) ∧
  (∀ s : State, s.Idle → ∃ t : State, step s = .next t ∧ t.ime = s.ime ∧ t.eiPending = s.eiPending) ∧
  (∀ s : State, s.Awake → s.InterruptDue → ∃ t : State, step s = .next t ∧ t.ime = false ∧ t.eiPending = false)

/-- R235, R236: with IME = 1 and an interrupt pending a step enters the lowest-numbered one: IME and ei_pending cleared,
IF[n] acknowledged, the return address pushed (the HALT's own while the halt bug is armed), PC at 0x0040 + 8·n, 20 cycles,
and no other register, flag or byte changed. -/
def Obligations.InterruptEntryTakesTheLowestSource : Prop :=
  ∀ s : State, s.Awake → s.InterruptDue →
    ∃ (n : Nat) (t : State),
      n < 5 ∧ s.pending.getLsbD n = true ∧ (∀ m : Nat, m < n → s.pending.getLsbD m = false) ∧
      step s = .next t ∧
      let ret := if s.haltBug then s.pc - 1#16 else s.pc
      t.pc = BitVec.ofNat 16 (0x0040 + 8 * n) ∧ t.sp = s.sp - 2#16 ∧ t.ime = false ∧ t.eiPending = false ∧
      t.haltBug = false ∧ t.mode = .run ∧ t.cycles = s.cycles + 20 ∧
      t.readByte (s.sp - 1#16) = byte (ret.toNat / 256) ∧ t.readByte (s.sp - 2#16) = byte (ret.toNat % 256) ∧
      (s.sp - 1#16 ≠ 0xFF0F#16 → s.sp - 2#16 ≠ 0xFF0F#16 →
        t.readByte 0xFF0F#16 = s.readByte 0xFF0F#16 &&& ~~~(byte (2 ^ n))) ∧
      KeepsAllBut [.pc, .sp, .ime, .eiPending, .haltBug, .mode, .cycles] s t ∧
      KeepsMemoryBut [0xFF0F#16, s.sp - 1#16, s.sp - 2#16] s t

/-- R57: `wake()` changes mode STOPPED to RUN and does nothing in other modes; a host write to `mem` changes that byte
only; and every operation of the host keeps the invariant. -/
def Obligations.HostActionsDoOnlyTheirEffect : Prop :=
  ∀ s : State,
    (s.mode = .stopped → s.afterHost .wake = { s with mode := .run }) ∧
    (s.mode ≠ .stopped → s.afterHost .wake = s) ∧
    (∀ (a : Word16) (v : Byte), (s.afterHost (.writeMem a v)).readByte a = v ∧
      KeepsMemoryBut [a] s (s.afterHost (.writeMem a v)) ∧ KeepsAllBut [] s (s.afterHost (.writeMem a v))) ∧
    (∀ act : HostAction, s.Inv → (s.afterHost act).Inv)

/-- R31: a step from a faulted state changes nothing and reports the same fault; in this model it answers that fault and no
state (log entry 3). -/
def Obligations.FaultIsSticky : Prop :=
  ∀ (s : State) (f : Fault), s.fault = some f →
    step s = .fault f ∧ stepReturn s = some (.faulted f) ∧ (∀ t : State, step s ≠ .next t)

/-- An illegal row records the decode fault with the address its byte was fetched from; PC is past the opcode
fetch, and nothing else changes, the cycle count included; the step that runs it returns the fault to the host, and so does
every later one (R231). That the recording step answers a next state is the model's choice (log entry 3; R231 has that
step return Faulted), and so is the reading of the returned value (log entry 4). -/
def Obligations.IllegalOpcodeTakesTheDecodeFault : Prop :=
  ∀ (i : Instr) (b : Byte) (s : State), (i, b) ∈ illegalRows →
    i.encode = [b] ∧
    ∃ t : State, exec i s = .next t ∧ t.fault = some (.illegalOpcode s.pc b) ∧ t.pc = s.pcAfter 1 ∧
      t.haltBug = false ∧ KeepsAllBut [.fault, .pc, .haltBug] s t ∧ KeepsMemory s t ∧
      (s.Runs i → stepReturn s = some (.faulted (.illegalOpcode s.pc b)) ∧
        ∃ u : State, step s = .next u ∧ step u = .fault (.illegalOpcode s.pc b))

/-- A step from a state without a fault answers a next state: R230 gives nothing else that could stop it. For the
step that decodes an illegal byte this is the model's choice alone (log entry 3): there R231 has the step return Faulted
and R259 counts it as an end of the run, and in this model it is the step after it that answers the fault. -/
def Obligations.StepAnswersUnlessFaulted : Prop :=
  ∀ s : State, s.fault = none → ∃ t : State, step s = .next t

/-- The decode fault of an illegal byte at PC is the only way into a fault (R230, R231). That the faulting step answers
a next state with the fault recorded is the model's choice (log entry 3). -/
def Obligations.OnlyIllegalBytesFault : Prop :=
  ∀ s t : State, s.fault = none → step s = .next t → t.fault ≠ none →
    s.Awake ∧ ¬s.InterruptDue ∧ s.readByte s.pc ∈ illegalBytes ∧
    t.fault = some (.illegalOpcode s.pc (s.readByte s.pc)) ∧ t.cycles = s.cycles

/-! ## Loads -/

/-- R110: NOP leaves everything unchanged except PC and the cycles. -/
def Obligations.NopOnlyAdvances : Prop :=
  ∀ s : State, Instr.nop.encode = [byte 0x00] ∧
    ∃ t : State, exec .nop s = .next t ∧ Advanced 1 4 s t ∧ KeepsAllBut stepParts s t ∧ KeepsMemory s t

/-- R111, R130: LD rr,n16 and LD SP,HL. -/
def Obligations.PairLoadsFillThePair : Prop :=
  (∀ (p : Pair) (n16 : Word16) (s : State),
    (Instr.mkLoadPair p n16).encode = byte (0x01 + 16 * pairCode p) :: wordBytes n16 ∧
    ∃ t : State, exec (Instr.mkLoadPair p n16) s = .next t ∧ t.pair p = n16 ∧ Advanced 3 12 s t ∧
      KeepsAllBut (pairParts p ++ stepParts) s t ∧ KeepsMemory s t) ∧
  (∀ s : State, Instr.ldSpHl.encode = [byte 0xF9] ∧
    ∃ t : State, exec .ldSpHl s = .next t ∧ t.sp = s.hl ∧ Advanced 1 8 s t ∧
      KeepsAllBut (.sp :: stepParts) s t ∧ KeepsMemory s t)

/-- R118, R119: LD r,n8 and LD (HL),n8. -/
def Obligations.ImmediateLoadsWriteTheByte : Prop :=
  (∀ (r : Reg8) (n8 : Byte) (s : State), (Instr.mkLoadImm r n8).encode = [byte (0x06 + 8 * regCode r), n8] ∧
    ∃ t : State, exec (Instr.mkLoadImm r n8) s = .next t ∧ t.reg r = n8 ∧ Advanced 2 8 s t ∧
      KeepsAllBut (regPart r :: stepParts) s t ∧ KeepsMemory s t) ∧
  (∀ (n8 : Byte) (s : State), (Instr.ldAtHlN8 n8).encode = [byte 0x36, n8] ∧
    ∃ t : State, exec (.ldAtHlN8 n8) s = .next t ∧ t.readByte s.hl = n8 ∧ Advanced 2 12 s t ∧
      KeepsAllBut stepParts s t ∧ KeepsMemoryBut [s.hl] s t)

/-- R120: LD r,r' copies the old value of its source. -/
def Obligations.RegisterMoveCopies : Prop :=
  ∀ (dst src : Reg8) (s : State),
    (Instr.mkMove dst src).encode = [byte (0x40 + 8 * regCode dst + regCode src)] ∧
    ∃ t : State, exec (Instr.mkMove dst src) s = .next t ∧ t.reg dst = s.reg src ∧ Advanced 1 4 s t ∧
      KeepsAllBut (regPart dst :: stepParts) s t ∧ KeepsMemory s t

/-- R121, R122: LD r,(HL) and LD (HL),r, the address from HL before the instruction. -/
def Obligations.HlLoadsAndStoresMoveOneByte : Prop :=
  ∀ (r : Reg8) (s : State),
    (Instr.mkLoadAtHl r).encode = [byte (0x46 + 8 * regCode r)] ∧
    (Instr.mkStoreAtHl r).encode = [byte (0x70 + regCode r)] ∧
    (∃ t : State, exec (Instr.mkLoadAtHl r) s = .next t ∧ t.reg r = s.readByte s.hl ∧ Advanced 1 8 s t ∧
      KeepsAllBut (regPart r :: stepParts) s t ∧ KeepsMemory s t) ∧
    (∃ t : State, exec (Instr.mkStoreAtHl r) s = .next t ∧ t.readByte s.hl = s.reg r ∧ Advanced 1 8 s t ∧
      KeepsAllBut stepParts s t ∧ KeepsMemoryBut [s.hl] s t)

/-- R113, R116, R117, R125, R127, R129: A is loaded from the effective address of R131, and HL modified after the access
by the (HL+) and (HL-) forms only. -/
def Obligations.AccumulatorLoadsReadTheAddress : Prop :=
  ∀ (m : AddrMode) (s : State), (Instr.mkLoadA m).encode = loadABytes m ∧
    ∃ t : State, exec (Instr.mkLoadA m) s = .next t ∧ t.reg .a = s.readByte (address m s) ∧ t.hl = hlAfter m s ∧
      Advanced (loadABytes m).length (modeCycles m) s t ∧
      KeepsAllBut (.regA :: modeParts m ++ stepParts) s t ∧ KeepsMemory s t

/-- R112, R114, R115, R124, R126, R128: A is stored at the effective address of R131, and HL modified after the access by
the (HL+) and (HL-) forms only. -/
def Obligations.AccumulatorStoresWriteTheAddress : Prop :=
  ∀ (m : AddrMode) (s : State), (Instr.mkStoreA m).encode = storeABytes m ∧
    ∃ t : State, exec (Instr.mkStoreA m) s = .next t ∧ t.readByte (address m s) = s.reg .a ∧ t.hl = hlAfter m s ∧
      Advanced (storeABytes m).length (modeCycles m) s t ∧
      KeepsAllBut (modeParts m ++ stepParts) s t ∧ KeepsMemoryBut [address m s] s t

/-- R123: LD (a16),SP stores SP's low byte at a16 and its high byte at a16 + 1 (mod 2^16). -/
def Obligations.StoreSpWritesTwoBytes : Prop :=
  ∀ (a16 : Word16) (s : State), (Instr.ldAtA16Sp a16).encode = byte 0x08 :: wordBytes a16 ∧
    ∃ t : State, exec (.ldAtA16Sp a16) s = .next t ∧ t.readByte a16 = byte (s.sp.toNat % 256) ∧
      t.readByte (a16 + 1#16) = byte (s.sp.toNat / 256) ∧ Advanced 3 20 s t ∧
      KeepsAllBut stepParts s t ∧ KeepsMemoryBut [a16, a16 + 1#16] s t

/-! ## Arithmetic and logic -/

/-- R141, R142: ADD and ADC in every source form, each sum taken unclamped with the incoming carry. -/
def Obligations.AddAndAdcAddWithFlags : Prop :=
  ∀ (withCarry : Bool) (src : Source) (s : State),
    let i := Instr.mkAlu (if withCarry then .adc else .add) src
    let a := s.reg .a
    let v := sourceValue src s
    let c := withCarry && s.flags.c
    i.encode = aluBytes (if withCarry then 1 else 0) src ∧
    ∃ t : State, exec i s = .next t ∧ t.reg .a = byte (a.toNat + v.toNat + c.toNat) ∧
      FlagsAre { z := decide ((a.toNat + v.toNat + c.toNat) % 256 = 0), n := false,
                 h := decide (a.toNat % 16 + v.toNat % 16 + c.toNat > 15),
                 c := decide (a.toNat + v.toNat + c.toNat > 255) } t ∧
      Advanced (aluLength src) (aluCycles src) s t ∧
      KeepsAllBut (.regA :: flagParts ++ stepParts) s t ∧ KeepsMemory s t

/-- R143, R144, R148: SUB, SBC and CP in every source form; CP writes the flags of SUB and leaves A. -/
def Obligations.SubSbcAndCpSubtractWithFlags : Prop :=
  ∀ (op : AluOp) (alu : Nat) (src : Source) (s : State), (op, alu) ∈ [(.sub, 2), (.sbc, 3), (.cp, 7)] →
    let a := s.reg .a
    let v := sourceValue src s
    let c := decide (op = .sbc) && s.flags.c
    let difference := a - v - byte c.toNat
    (Instr.mkAlu op src).encode = aluBytes alu src ∧
    ∃ t : State, exec (Instr.mkAlu op src) s = .next t ∧
      t.reg .a = (if op = .cp then a else difference) ∧
      FlagsAre { z := decide (difference = 0x00#8), n := true,
                 h := decide (a.toNat % 16 < v.toNat % 16 + c.toNat),
                 c := decide (a.toNat < v.toNat + c.toNat) } t ∧
      Advanced (aluLength src) (aluCycles src) s t ∧
      KeepsAllBut (.regA :: flagParts ++ stepParts) s t ∧ KeepsMemory s t

/-- R145, R146, R147: AND, XOR and OR in every source form. -/
def Obligations.LogicOperationsWriteTheirFlags : Prop :=
  ∀ (op : AluOp) (alu : Nat) (src : Source) (s : State), (op, alu) ∈ [(.and, 4), (.xor, 5), (.or, 6)] →
    let a := s.reg .a
    let v := sourceValue src s
    let res := if op = .and then a &&& v else if op = .xor then a ^^^ v else a ||| v
    (Instr.mkAlu op src).encode = aluBytes alu src ∧
    ∃ t : State, exec (Instr.mkAlu op src) s = .next t ∧ t.reg .a = res ∧
      FlagsAre { z := decide (res = 0x00#8), n := false, h := decide (op = .and), c := false } t ∧
      Advanced (aluLength src) (aluCycles src) s t ∧
      KeepsAllBut (.regA :: flagParts ++ stepParts) s t ∧ KeepsMemory s t

/-- R149 to R152: INC and DEC of a register or of the byte at HL, the flags from the result, C unchanged. -/
def Obligations.IncAndDecKeepCarry : Prop :=
  ∀ (o : Operand8) (s : State),
    let v := operandValue o s
    (Instr.mkInc o).encode = [byte (0x04 + 8 * operandCode o)] ∧
    (Instr.mkDec o).encode = [byte (0x05 + 8 * operandCode o)] ∧
    (∃ t : State, exec (Instr.mkInc o) s = .next t ∧ operandValue o t = byte (v.toNat + 1) ∧
      FlagsAre { z := decide (v = 0xFF#8), n := false, h := decide (v.toNat % 16 = 15), c := s.flags.c } t ∧
      Advanced 1 (operandCycles o 4 12) s t ∧ KeepsAllBut (operandParts o ++ flagParts ++ stepParts) s t ∧
      KeepsMemoryBut (operandAddrs o s) s t) ∧
    (∃ t : State, exec (Instr.mkDec o) s = .next t ∧ operandValue o t = v - 1#8 ∧
      FlagsAre { z := decide (v = 0x01#8), n := true, h := decide (v.toNat % 16 = 0), c := s.flags.c } t ∧
      Advanced 1 (operandCycles o 4 12) s t ∧ KeepsAllBut (operandParts o ++ flagParts ++ stepParts) s t ∧
      KeepsMemoryBut (operandAddrs o s) s t)

/-- R153: ADD HL,rr leaves Z; H is the carry out of bit 11 and C the carry out of bit 15. -/
def Obligations.AddHlKeepsZero : Prop :=
  ∀ (p : Pair) (s : State), (Instr.mkAddHl p).encode = [byte (0x09 + 16 * pairCode p)] ∧
    ∃ t : State, exec (Instr.mkAddHl p) s = .next t ∧ t.hl = s.hl + s.pair p ∧
      FlagsAre { z := s.flags.z, n := false,
                 h := decide (s.hl.toNat % 4096 + (s.pair p).toNat % 4096 > 4095),
                 c := decide (s.hl.toNat + (s.pair p).toNat > 65535) } t ∧
      Advanced 1 8 s t ∧ KeepsAllBut ([.regH, .regL] ++ flagParts ++ stepParts) s t ∧ KeepsMemory s t

/-- R154, R155: INC rr and DEC rr wrap modulo 2^16 and write no flag. -/
def Obligations.PairIncAndDecWriteNoFlag : Prop :=
  ∀ (p : Pair) (s : State),
    (Instr.mkIncPair p).encode = [byte (0x03 + 16 * pairCode p)] ∧
    (Instr.mkDecPair p).encode = [byte (0x0B + 16 * pairCode p)] ∧
    (∃ t : State, exec (Instr.mkIncPair p) s = .next t ∧ t.pair p = BitVec.ofNat 16 ((s.pair p).toNat + 1) ∧
      Advanced 1 8 s t ∧ KeepsAllBut (pairParts p ++ stepParts) s t ∧ KeepsMemory s t) ∧
    (∃ t : State, exec (Instr.mkDecPair p) s = .next t ∧ t.pair p = BitVec.ofNat 16 ((s.pair p).toNat + 65535) ∧
      Advanced 1 8 s t ∧ KeepsAllBut (pairParts p ++ stepParts) s t ∧ KeepsMemory s t)

/-- R156, R157: ADD SP,e8 and LD HL,SP+e8 add the signed displacement; H and C come from the unsigned addition of SP's low
byte and the raw byte, Z and N are cleared; the second leaves SP. -/
def Obligations.SpDisplacementFlagsAreLowByte : Prop :=
  ∀ (e8 : Byte) (s : State),
    let x : Flags := { z := false, n := false, h := decide (s.sp.toNat % 16 + e8.toNat % 16 > 15),
                       c := decide (s.sp.toNat % 256 + e8.toNat > 255) }
    (Instr.addSpE8 e8).encode = [byte 0xE8, e8] ∧ (Instr.ldHlSpE8 e8).encode = [byte 0xF8, e8] ∧
    (∃ t : State, exec (.addSpE8 e8) s = .next t ∧ t.sp = displaced s.sp e8 ∧ FlagsAre x t ∧ Advanced 2 16 s t ∧
      KeepsAllBut (.sp :: flagParts ++ stepParts) s t ∧ KeepsMemory s t) ∧
    (∃ t : State, exec (.ldHlSpE8 e8) s = .next t ∧ t.hl = displaced s.sp e8 ∧ FlagsAre x t ∧ Advanced 2 12 s t ∧
      KeepsAllBut ([.regH, .regL] ++ flagParts ++ stepParts) s t ∧ KeepsMemory s t)

/-! ## Stack and control transfer -/

/-- R171: PUSH stores the pair's high byte at SP-1 and its low byte at SP-2, and moves SP down by two. -/
def Obligations.PushStoresThePair : Prop :=
  ∀ (q : StackPair) (s : State), (Instr.mkPush q).encode = [byte (0xC5 + 16 * stackPairCode q)] ∧
    ∃ t : State, exec (Instr.mkPush q) s = .next t ∧ t.sp = s.sp - 2#16 ∧
      t.readByte (s.sp - 1#16) = byte ((s.stackPair q).toNat / 256) ∧
      t.readByte (s.sp - 2#16) = byte ((s.stackPair q).toNat % 256) ∧
      (q = .af → s.Inv → (t.readByte (s.sp - 2#16)).toNat % 16 = 0) ∧
      Advanced 1 16 s t ∧ KeepsAllBut (.sp :: stepParts) s t ∧ KeepsMemoryBut [s.sp - 1#16, s.sp - 2#16] s t

/-- R172: POP loads the pair from SP and SP+1 and moves SP up by two; POP AF forces F's low nibble to 0 and takes the flags
from bits 7..4 of the low byte, the other pops write no flag. -/
def Obligations.PopLoadsThePair : Prop :=
  ∀ (q : StackPair) (s : State), (Instr.mkPop q).encode = [byte (0xC1 + 16 * stackPairCode q)] ∧
    let lo := s.readByte s.sp
    let v := word (s.readByte (s.sp + 1#16)) lo
    ∃ t : State, exec (Instr.mkPop q) s = .next t ∧ t.sp = s.sp + 2#16 ∧
      t.stackPair q = (if q = .af then v &&& 0xFFF0#16 else v) ∧
      (q = .af → t.flags = { z := lo.getLsbD 7, n := lo.getLsbD 6, h := lo.getLsbD 5, c := lo.getLsbD 4 }) ∧
      Advanced 1 12 s t ∧ KeepsAllBut (.sp :: stackPairParts q ++ stepParts) s t ∧ KeepsMemory s t

/-- R174, R175, R176: JP a16, JP HL, and JP cc,a16 taken exactly when its condition holds. -/
def Obligations.JumpsSetPc : Prop :=
  (∀ (a16 : Word16) (s : State), (Instr.jpA16 a16).encode = byte 0xC3 :: wordBytes a16 ∧
    ∃ t : State, exec (.jpA16 a16) s = .next t ∧ Transferred a16 16 s t ∧ KeepsAllBut stepParts s t ∧ KeepsMemory s t) ∧
  (∀ s : State, Instr.jpHl.encode = [byte 0xE9] ∧
    ∃ t : State, exec .jpHl s = .next t ∧ Transferred s.hl 4 s t ∧ KeepsAllBut stepParts s t ∧ KeepsMemory s t) ∧
  (∀ (cc : Cond) (a16 : Word16) (s : State),
    (Instr.mkJump cc a16).encode = byte (0xC2 + 8 * condCode cc) :: wordBytes a16 ∧
    ∃ t : State, exec (Instr.mkJump cc a16) s = .next t ∧
      (if holds cc s.flags then Transferred a16 16 s t else Advanced 3 12 s t) ∧
      KeepsAllBut stepParts s t ∧ KeepsMemory s t)

/-- R177, R178: JR e8, and JR cc,e8 taken exactly when its condition holds, relative to the address after the instruction,
modulo 2^16. -/
def Obligations.RelativeJumpsAddTheDisplacement : Prop :=
  (∀ (e8 : Byte) (s : State), (Instr.jrE8 e8).encode = [byte 0x18, e8] ∧
    ∃ t : State, exec (.jrE8 e8) s = .next t ∧ Transferred (displaced (s.pcAfter 2) e8) 12 s t ∧
      KeepsAllBut stepParts s t ∧ KeepsMemory s t) ∧
  (∀ (cc : Cond) (e8 : Byte) (s : State), (Instr.mkJumpRel cc e8).encode = [byte (0x20 + 8 * condCode cc), e8] ∧
    ∃ t : State, exec (Instr.mkJumpRel cc e8) s = .next t ∧
      (if holds cc s.flags then Transferred (displaced (s.pcAfter 2) e8) 12 s t else Advanced 2 8 s t) ∧
      KeepsAllBut stepParts s t ∧ KeepsMemory s t)

/-- R179, R180: CALL a16, and CALL cc,a16 when its condition holds, push the address after the instruction and jump; a
not-taken CALL touches neither the stack nor SP. -/
def Obligations.CallsPushTheReturnAddress : Prop :=
  (∀ (a16 : Word16) (s : State), (Instr.callA16 a16).encode = byte 0xCD :: wordBytes a16 ∧
    ∃ t : State, exec (.callA16 a16) s = .next t ∧ Transferred a16 24 s t ∧ t.sp = s.sp - 2#16 ∧
      t.readByte (s.sp - 1#16) = byte ((s.pcAfter 3).toNat / 256) ∧
      t.readByte (s.sp - 2#16) = byte ((s.pcAfter 3).toNat % 256) ∧
      KeepsAllBut (.sp :: stepParts) s t ∧ KeepsMemoryBut [s.sp - 1#16, s.sp - 2#16] s t) ∧
  (∀ (cc : Cond) (a16 : Word16) (s : State),
    (Instr.mkCall cc a16).encode = byte (0xC4 + 8 * condCode cc) :: wordBytes a16 ∧
    ∃ t : State, exec (Instr.mkCall cc a16) s = .next t ∧
      (if holds cc s.flags then
        Transferred a16 24 s t ∧ t.sp = s.sp - 2#16 ∧
        t.readByte (s.sp - 1#16) = byte ((s.pcAfter 3).toNat / 256) ∧
        t.readByte (s.sp - 2#16) = byte ((s.pcAfter 3).toNat % 256) ∧
        KeepsAllBut (.sp :: stepParts) s t ∧ KeepsMemoryBut [s.sp - 1#16, s.sp - 2#16] s t
      else Advanced 3 12 s t ∧ KeepsAllBut stepParts s t ∧ KeepsMemory s t))

/-- R184: RST pushes the address after its byte and jumps to y·8. -/
def Obligations.RestartsPushAndJump : Prop :=
  ∀ (y : BitVec 3) (s : State), (Instr.mkRst y).encode = [byte (0xC7 + 8 * y.toNat)] ∧
    ∃ t : State, exec (Instr.mkRst y) s = .next t ∧ Transferred (BitVec.ofNat 16 (8 * y.toNat)) 16 s t ∧
      t.sp = s.sp - 2#16 ∧
      t.readByte (s.sp - 1#16) = byte ((s.pcAfter 1).toNat / 256) ∧
      t.readByte (s.sp - 2#16) = byte ((s.pcAfter 1).toNat % 256) ∧
      KeepsAllBut (.sp :: stepParts) s t ∧ KeepsMemoryBut [s.sp - 1#16, s.sp - 2#16] s t

/-- R181, R182, R183: RET, RETI, and RET cc when its condition holds, pop PC; RETI also sets IME at once, so
that a pending interrupt is due at the next boundary, and leaves ei_pending; a not-taken RET leaves SP. -/
def Obligations.ReturnsPopPc : Prop :=
  ∀ s : State,
    let target := word (s.readByte (s.sp + 1#16)) (s.readByte s.sp)
    Instr.ret.encode = [byte 0xC9] ∧ Instr.reti.encode = [byte 0xD9] ∧
    (∃ t : State, exec .ret s = .next t ∧ Transferred target 16 s t ∧ t.sp = s.sp + 2#16 ∧
      KeepsAllBut (.sp :: stepParts) s t ∧ KeepsMemory s t) ∧
    (∃ t : State, exec .reti s = .next t ∧ Transferred target 16 s t ∧ t.sp = s.sp + 2#16 ∧ t.ime = true ∧
      (s.fault = none → s.mode = .run → t.pending ≠ 0x00#8 → t.Awake ∧ t.InterruptDue) ∧
      KeepsAllBut (.ime :: .sp :: stepParts) s t ∧ KeepsMemory s t) ∧
    (∀ cc : Cond, (Instr.mkRet cc).encode = [byte (0xC0 + 8 * condCode cc)] ∧
      ∃ t : State, exec (Instr.mkRet cc) s = .next t ∧
        (if holds cc s.flags then
          Transferred target 20 s t ∧ t.sp = s.sp + 2#16 ∧ KeepsAllBut (.sp :: stepParts) s t
        else Advanced 1 8 s t ∧ KeepsAllBut stepParts s t) ∧ KeepsMemory s t)

/-- PUSH then POP moves a pair: every pair through the stack into every pair, AF's low nibble dropped, SP as it was. A CALL,
then a RET at its target, comes back to the instruction after the CALL with SP, the registers and the flags as they were. -/
def Obligations.StackRoundTrips : Prop :=
  (∀ (q q' : StackPair) (s t u : State), s.Inv → exec (Instr.mkPush q) s = .next t → exec (Instr.mkPop q') t = .next u →
    u.sp = s.sp ∧ u.stackPair q' = (if q' = .af then s.stackPair q &&& 0xFFF0#16 else s.stackPair q) ∧
    KeepsAllBut (stackPairParts q' ++ stepParts) s u ∧ (q = q' → u.stackPair q = s.stackPair q)) ∧
  (∀ (a16 : Word16) (s t u : State), exec (.callA16 a16) s = .next t → exec .ret t = .next u →
    u.pc = s.pcAfter 3 ∧ u.sp = s.sp ∧ KeepsAllBut stepParts s u ∧
    KeepsMemoryBut [s.sp - 1#16, s.sp - 2#16] s u)

/-! ## Accumulator rotates, DAA, flags, HALT, STOP, DI, EI -/

/-- R200, R201, R204, R205: RLCA, RRCA, RLA and RRA rotate A and always clear Z. -/
def Obligations.AccumulatorRotatesClearZero : Prop :=
  ∀ (i : Instr) (op : RotOp) (s : State),
    (i, op) ∈ [(Instr.rlca, RotOp.rlc), (.rrca, .rrc), (.rla, .rl), (.rra, .rr)] →
    let out := rotated op (s.reg .a) s.flags.c
    i.encode = [byte (0x07 + 8 * rotCode op)] ∧
    ∃ t : State, exec i s = .next t ∧ t.reg .a = out.1 ∧
      FlagsAre { z := false, n := false, h := false, c := out.2 } t ∧ Advanced 1 4 s t ∧
      KeepsAllBut (.regA :: flagParts ++ stepParts) s t ∧ KeepsMemory s t

/-- R206: DAA on every A and every flag combination. -/
def Obligations.DaaAdjustsTheAccumulator : Prop :=
  ∀ s : State,
    let out := adjusted (s.reg .a) s.flags
    Instr.daa.encode = [byte 0x27] ∧
    ∃ t : State, exec .daa s = .next t ∧ t.reg .a = out.1 ∧
      FlagsAre { z := decide (out.1 = 0x00#8), n := s.flags.n, h := false, c := out.2 } t ∧ Advanced 1 4 s t ∧
      KeepsAllBut (.regA :: flagParts ++ stepParts) s t ∧ KeepsMemory s t

/-- DAA is what its name says: after an ADD (or SUB) of two two-digit decimal numbers it leaves the decimal sum (or
difference) modulo 100, with C the decimal carry (or borrow). -/
def Obligations.DaaGivesDecimalArithmetic : Prop :=
  ∀ (x y : Nat) (s t u : State), x < 100 → y < 100 → s.reg .a = bcd x →
    (exec (.addAN8 (bcd y)) s = .next t → exec .daa t = .next u →
      u.reg .a = bcd ((x + y) % 100) ∧ u.flags.c = decide (x + y ≥ 100) ∧ u.flags.z = decide ((x + y) % 100 = 0)) ∧
    (exec (.subN8 (bcd y)) s = .next t → exec .daa t = .next u →
      u.reg .a = bcd ((x + 100 - y) % 100) ∧ u.flags.c = decide (x < y) ∧ u.flags.z = decide (x = y))

/-- R207, R208, R209: CPL, SCF and CCF. -/
def Obligations.FlagInstructionsKeepZero : Prop :=
  ∀ s : State,
    Instr.cpl.encode = [byte 0x2F] ∧ Instr.scf.encode = [byte 0x37] ∧ Instr.ccf.encode = [byte 0x3F] ∧
    (∃ t : State, exec .cpl s = .next t ∧ (t.reg .a).toNat = 255 - (s.reg .a).toNat ∧
      FlagsAre { z := s.flags.z, n := true, h := true, c := s.flags.c } t ∧ Advanced 1 4 s t ∧
      KeepsAllBut (.regA :: flagParts ++ stepParts) s t ∧ KeepsMemory s t) ∧
    (∃ t : State, exec .scf s = .next t ∧ FlagsAre { z := s.flags.z, n := false, h := false, c := true } t ∧
      Advanced 1 4 s t ∧ KeepsAllBut (flagParts ++ stepParts) s t ∧ KeepsMemory s t) ∧
    (∃ t : State, exec .ccf s = .next t ∧ FlagsAre { z := s.flags.z, n := false, h := false, c := !s.flags.c } t ∧
      Advanced 1 4 s t ∧ KeepsAllBut (flagParts ++ stepParts) s t ∧ KeepsMemory s t)

/-- R202: HALT enters HALTED, unless IME = 0 with an interrupt pending: then the halt bug is armed. The halted core wakes on
a pending interrupt whatever IME is, and goes on as in mode RUN. While the halt bug is armed the next fetch reads its byte
without advancing PC, once. -/
def Obligations.HaltStopsFetchUntilPending : Prop :=
  ∀ s : State,
    let pending := s.readByte 0xFFFF#16 &&& s.readByte 0xFF0F#16 &&& 0x1F#8
    Instr.halt.encode = [byte 0x76] ∧
    (∃ t : State, exec .halt s = .next t ∧ t.pc = s.pcAfter 1 ∧ t.cycles = s.cycles + 4 ∧
      (if s.ime = true ∨ pending = 0x00#8 then t.mode = .halted ∧ t.haltBug = false
        else t.mode = s.mode ∧ t.haltBug = true) ∧
      KeepsAllBut (.mode :: stepParts) s t ∧ KeepsMemory s t) ∧
    (s.fault = none → s.mode = .halted → pending = 0x00#8 → step s = .next { s with cycles := s.cycles + 4 }) ∧
    (s.fault = none → s.mode = .halted → pending ≠ 0x00#8 → step s = step { s with mode := .run }) ∧
    (s.haltBug = true → s.fetch8.1 = s.readByte s.pc ∧ s.fetch8.2.pc = s.pc ∧ s.fetch8.2.haltBug = false)

/-- R203: STOP enters STOPPED, its second byte ignored whatever it is; a stopped core, even with an interrupt pending, only
counts cycles until the host's wake. -/
def Obligations.StopWaitsForTheHost : Prop :=
  ∀ (n8 : Byte) (s : State), (Instr.stop n8).encode = [byte 0x10, n8] ∧
    (∃ t : State, exec (.stop n8) s = .next t ∧ t.mode = .stopped ∧ Advanced 2 4 s t ∧
      KeepsAllBut (.mode :: stepParts) s t ∧ KeepsMemory s t) ∧
    (s.fault = none → s.mode = .stopped → step s = .next { s with cycles := s.cycles + 4 }) ∧
    (s.mode = .stopped → s.wake = { s with mode := .run })

/-- R210, R211: DI clears IME and ei_pending at once; EI sets ei_pending only, and IME becomes 1 at the end of the next
instruction. -/
def Obligations.DiIsImmediateAndEiDelayed : Prop :=
  ∀ s : State, Instr.di.encode = [byte 0xF3] ∧ Instr.ei.encode = [byte 0xFB] ∧
    (∃ t : State, exec .di s = .next t ∧ t.ime = false ∧ t.eiPending = false ∧ Advanced 1 4 s t ∧
      KeepsAllBut (.ime :: .eiPending :: stepParts) s t ∧ KeepsMemory s t) ∧
    (∃ t : State, exec .ei s = .next t ∧ t.eiPending = true ∧ Advanced 1 4 s t ∧
      KeepsAllBut (.eiPending :: stepParts) s t ∧ KeepsMemory s t ∧
      ∀ i : Instr, t.Runs i → i ≠ .di → (∀ b : Byte, (i, b) ∉ illegalRows) →
        ∃ u : State, step t = .next u ∧ u.ime = true ∧ u.eiPending = false)

/-! ## CB instructions -/

/-- R261 to R268: the CB rotates and shifts on a register or on the byte at HL, with Z from the result. -/
def Obligations.CbRotatesWriteBackAndSetFlags : Prop :=
  ∀ (op : RotOp) (o : Operand8) (s : State),
    let out := rotated op (operandValue o s) s.flags.c
    (Instr.mkRot op o).encode = [byte 0xCB, byte (8 * rotCode op + operandCode o)] ∧
    ∃ t : State, exec (Instr.mkRot op o) s = .next t ∧ operandValue o t = out.1 ∧
      FlagsAre { z := decide (out.1 = 0x00#8), n := false, h := false, c := out.2 } t ∧
      Advanced 2 (operandCycles o 8 16) s t ∧ KeepsAllBut (operandParts o ++ flagParts ++ stepParts) s t ∧
      KeepsMemoryBut (operandAddrs o s) s t

/-- R269: BIT b,r sets Z to the complement of the bit, keeps C, and writes no operand. -/
def Obligations.BitTestsWithoutWriting : Prop :=
  ∀ (b : BitVec 3) (o : Operand8) (s : State),
    (Instr.mkBit b o).encode = [byte 0xCB, byte (0x40 + 8 * b.toNat + operandCode o)] ∧
    ∃ t : State, exec (Instr.mkBit b o) s = .next t ∧
      FlagsAre { z := decide ((operandValue o s).toNat / 2 ^ b.toNat % 2 = 0), n := false, h := true,
                 c := s.flags.c } t ∧
      Advanced 2 (operandCycles o 8 12) s t ∧ KeepsAllBut (flagParts ++ stepParts) s t ∧ KeepsMemory s t

/-- R270, R271: RES and SET change one bit of the operand and no flag. -/
def Obligations.ResAndSetChangeOneBit : Prop :=
  ∀ (b : BitVec 3) (o : Operand8) (s : State),
    (Instr.mkRes b o).encode = [byte 0xCB, byte (0x80 + 8 * b.toNat + operandCode o)] ∧
    (Instr.mkSet b o).encode = [byte 0xCB, byte (0xC0 + 8 * b.toNat + operandCode o)] ∧
    (∃ t : State, exec (Instr.mkRes b o) s = .next t ∧
      (∀ k : Nat, (operandValue o t).getLsbD k = ((operandValue o s).getLsbD k && decide (k ≠ b.toNat))) ∧
      Advanced 2 (operandCycles o 8 16) s t ∧ KeepsAllBut (operandParts o ++ stepParts) s t ∧
      KeepsMemoryBut (operandAddrs o s) s t) ∧
    (∃ t : State, exec (Instr.mkSet b o) s = .next t ∧
      (∀ k : Nat, (operandValue o t).getLsbD k = ((operandValue o s).getLsbD k || decide (k = b.toNat))) ∧
      Advanced 2 (operandCycles o 8 16) s t ∧ KeepsAllBut (operandParts o ++ stepParts) s t ∧
      KeepsMemoryBut (operandAddrs o s) s t)

/-! ## Rules about the whole machine -/

/-- Every whole instruction costs its entry of the base or CB cycle table, a conditional one the first figure when
its condition holds and the second when not, and an illegal byte costs nothing (R53, R58, R59). That every one answers a
next state is read from the rules of the instructions; for the eleven illegal rows it is the model's choice (log entry 3).
The bare prefix is no whole instruction, and PrefixRunsTheSelectedCbInstruction gives its cost. -/
def Obligations.InstructionsCostTheirTableEntry : Prop :=
  ∀ (i : Instr) (s : State), i.WellFormed →
    ∃ t : State, exec i s = .next t ∧ t.cycles = s.cycles + tableCost i.encode s.flags

/-- A step returns what it adds to `cycles`: the instruction's entry, 20 for an interrupt entry, 4 for an idle step; a
faulting step and a step from a faulted state add nothing (R53). `stepReturn` is the model's reading of the returned value
(log entry 4). That a faulting step answers a next state, and a step from a faulted state answers the fault and no state,
is the model's choice (log entry 3). -/
def Obligations.StepReturnsItsCost : Prop :=
  (∀ (s : State) (i : Instr), s.Runs i → (∀ b : Byte, (i, b) ∉ illegalRows) →
    stepReturn s = some (.ok (tableCost i.encode s.flags))) ∧
  (∀ s : State, s.Awake → s.InterruptDue → stepReturn s = some (.ok 20)) ∧
  (∀ s : State, s.Idle → stepReturn s = some (.ok 4)) ∧
  (∀ (s t : State), step s = .next t →
    (t.fault = none → s.cycles ≤ t.cycles ∧ stepReturn s = some (.ok (t.cycles - s.cycles))) ∧
    (t.fault ≠ none → t.cycles = s.cycles)) ∧
  (∀ (s : State) (f : Fault), s.fault = some f → ∀ t : State, step s ≠ .next t)

/-- R24: an instruction without a control transfer advances PC by its encoded length, modulo 2^16 (one less where the halt
bug holds the first fetch). -/
def Obligations.PcAdvancesByTheEncodedLength : Prop :=
  ∀ (i : Instr) (s t : State), i.WellFormed → exec i s = .next t → (∀ b ∈ transferBytes, i.encode.head? ≠ some b) →
    t.pc = s.pcAfter i.encode.length

/-- R26: IME changes only by DI, by RETI, by an EI of the step before, and by interrupt entry. -/
def Obligations.OnlyTheseChangeIme : Prop :=
  ∀ s t : State, step s = .next t → t.ime ≠ s.ime →
    (s.Awake ∧ s.InterruptDue ∧ t.ime = false) ∨ (s.Runs .di ∧ t.ime = false) ∨ (s.Runs .reti ∧ t.ime = true) ∨
    (s.eiPending = true ∧ (∃ i : Instr, s.Runs i) ∧ t.ime = true)

/-- R28, R247: the run mode changes only by HALT, by STOP, and by a halted core waking on a pending interrupt. -/
def Obligations.OnlyTheseChangeTheMode : Prop :=
  ∀ s t : State, step s = .next t → t.mode ≠ s.mode →
    (s.mode = .halted ∧ s.pending ≠ 0x00#8 ∧ t.mode = .run) ∨ (s.Runs .halt ∧ t.mode = .halted) ∨
    ((∃ n8 : Byte, s.Runs (.stop n8)) ∧ t.mode = .stopped)
end

