-- ==== Sys2Proof/Laws/Exec.lean ====
section
/-! SUPPORT. Every meaning is a shared operation: one case analysis over the operations serves every claim about all
instructions. -/

namespace Sys2Proof.Machine

/-- What a shared operation answers, one case per operation. -/
inductive SharedCase (s : State) : Result → Prop where
  | noOperation : SharedCase s (Sys2Proof.Machine.noOperation s)
  | loadPairImm (p : Pair) (n16 : Word16) : SharedCase s (Sys2Proof.Machine.loadPairImm p n16 s)
  | loadImm (r : Reg8) (n8 : Byte) : SharedCase s (Sys2Proof.Machine.loadImm r n8 s)
  | storeImm (n8 : Byte) : SharedCase s (Sys2Proof.Machine.storeImm n8 s)
  | storeAccumulator (m : AddrMode) : SharedCase s (Sys2Proof.Machine.storeAccumulator m s)
  | loadAccumulator (m : AddrMode) : SharedCase s (Sys2Proof.Machine.loadAccumulator m s)
  | moveReg (dst src : Reg8) : SharedCase s (Sys2Proof.Machine.moveReg dst src s)
  | loadIndirect (r : Reg8) : SharedCase s (Sys2Proof.Machine.loadIndirect r s)
  | storeIndirect (r : Reg8) : SharedCase s (Sys2Proof.Machine.storeIndirect r s)
  | storeSp (a16 : Word16) : SharedCase s (Sys2Proof.Machine.storeSp a16 s)
  | loadSpHl : SharedCase s (Sys2Proof.Machine.loadSpHl s)
  | accumulate (op : AluOp) (src : Source) : SharedCase s (Sys2Proof.Machine.accumulate op src s)
  | incOperand (o : Operand8) : SharedCase s (Sys2Proof.Machine.incOperand o s)
  | decOperand (o : Operand8) : SharedCase s (Sys2Proof.Machine.decOperand o s)
  | addHl (p : Pair) : SharedCase s (Sys2Proof.Machine.addHl p s)
  | incPair (p : Pair) : SharedCase s (Sys2Proof.Machine.incPair p s)
  | decPair (p : Pair) : SharedCase s (Sys2Proof.Machine.decPair p s)
  | addSpImm (e8 : Byte) : SharedCase s (Sys2Proof.Machine.addSpImm e8 s)
  | loadHlSpImm (e8 : Byte) : SharedCase s (Sys2Proof.Machine.loadHlSpImm e8 s)
  | pushPair (q : StackPair) : SharedCase s (Sys2Proof.Machine.pushPair q s)
  | popPair (q : StackPair) : SharedCase s (Sys2Proof.Machine.popPair q s)
  | jump (a16 : Word16) : SharedCase s (Sys2Proof.Machine.jump a16 s)
  | jumpIf (cc : Cond) (a16 : Word16) : SharedCase s (Sys2Proof.Machine.jumpIf cc a16 s)
  | jumpHl : SharedCase s (Sys2Proof.Machine.jumpHl s)
  | jumpRel (e8 : Byte) : SharedCase s (Sys2Proof.Machine.jumpRel e8 s)
  | jumpRelIf (cc : Cond) (e8 : Byte) : SharedCase s (Sys2Proof.Machine.jumpRelIf cc e8 s)
  | call (a16 : Word16) : SharedCase s (Sys2Proof.Machine.call a16 s)
  | callIf (cc : Cond) (a16 : Word16) : SharedCase s (Sys2Proof.Machine.callIf cc a16 s)
  | ret : SharedCase s (Sys2Proof.Machine.ret s)
  | retIf (cc : Cond) : SharedCase s (Sys2Proof.Machine.retIf cc s)
  | retInterrupt : SharedCase s (Sys2Proof.Machine.retInterrupt s)
  | restart (n : Byte) : SharedCase s (Sys2Proof.Machine.restart n s)
  | rotateA (op : RotOp) : SharedCase s (Sys2Proof.Machine.rotateA op s)
  | decimalAdjust : SharedCase s (Sys2Proof.Machine.decimalAdjust s)
  | complementA : SharedCase s (Sys2Proof.Machine.complementA s)
  | setCarry : SharedCase s (Sys2Proof.Machine.setCarry s)
  | complementCarry : SharedCase s (Sys2Proof.Machine.complementCarry s)
  | haltCore : SharedCase s (Sys2Proof.Machine.haltCore s)
  | stopCore (n8 : Byte) : SharedCase s (Sys2Proof.Machine.stopCore n8 s)
  | disableInterrupts : SharedCase s (Sys2Proof.Machine.disableInterrupts s)
  | enableInterrupts : SharedCase s (Sys2Proof.Machine.enableInterrupts s)
  | rotateOperand (op : RotOp) (o : Operand8) : SharedCase s (Sys2Proof.Machine.rotateOperand op o s)
  | testBit (b : BitVec 3) (o : Operand8) : SharedCase s (Sys2Proof.Machine.testBit b o s)
  | resetBit (b : BitVec 3) (o : Operand8) : SharedCase s (Sys2Proof.Machine.resetBit b o s)
  | setBit (b : BitVec 3) (o : Operand8) : SharedCase s (Sys2Proof.Machine.setBit b o s)
  | illegalOpcode (byte : Byte) : SharedCase s (Sys2Proof.Machine.illegalOpcode byte s)

theorem runCb_sharedCase (op2 : Byte) (s : State) : SharedCase s (runCb op2 s) := by
  unfold runCb
  split
  · exact .rotateOperand _ _
  · exact .testBit _ _
  · exact .resetBit _ _
  · exact .setBit _ _

/-- Every instruction runs one shared operation. -/
theorem exec_sharedCase (i : Instr) (s : State) : SharedCase s (exec i s) :=
  match i with
  | .ldBcN16 n16 => .loadPairImm .bc n16
  | .ldBN8 n8 => .loadImm .b n8
  | .ldAtA16Sp a16 => .storeSp a16
  | .ldCN8 n8 => .loadImm .c n8
  | .stop n8 => .stopCore n8
  | .ldDeN16 n16 => .loadPairImm .de n16
  | .ldDN8 n8 => .loadImm .d n8
  | .jrE8 e8 => .jumpRel e8
  | .ldEN8 n8 => .loadImm .e n8
  | .jrNzE8 e8 => .jumpRelIf .nz e8
  | .ldHlN16 n16 => .loadPairImm .hl n16
  | .ldHN8 n8 => .loadImm .h n8
  | .jrZE8 e8 => .jumpRelIf .z e8
  | .ldLN8 n8 => .loadImm .l n8
  | .jrNcE8 e8 => .jumpRelIf .nc e8
  | .ldSpN16 n16 => .loadPairImm .sp n16
  | .ldAtHlN8 n8 => .storeImm n8
  | .jrCE8 e8 => .jumpRelIf .c e8
  | .ldAN8 n8 => .loadImm .a n8
  | .jpNzA16 a16 => .jumpIf .nz a16
  | .jpA16 a16 => .jump a16
  | .callNzA16 a16 => .callIf .nz a16
  | .addAN8 n8 => .accumulate .add (.imm n8)
  | .jpZA16 a16 => .jumpIf .z a16
  | .callZA16 a16 => .callIf .z a16
  | .callA16 a16 => .call a16
  | .adcAN8 n8 => .accumulate .adc (.imm n8)
  | .jpNcA16 a16 => .jumpIf .nc a16
  | .callNcA16 a16 => .callIf .nc a16
  | .subN8 n8 => .accumulate .sub (.imm n8)
  | .jpCA16 a16 => .jumpIf .c a16
  | .callCA16 a16 => .callIf .c a16
  | .sbcAN8 n8 => .accumulate .sbc (.imm n8)
  | .ldhAtA8A a8 => .storeAccumulator (.atA8 a8)
  | .andN8 n8 => .accumulate .and (.imm n8)
  | .addSpE8 e8 => .addSpImm e8
  | .ldAtA16A a16 => .storeAccumulator (.atA16 a16)
  | .xorN8 n8 => .accumulate .xor (.imm n8)
  | .ldhAAtA8 a8 => .loadAccumulator (.atA8 a8)
  | .orN8 n8 => .accumulate .or (.imm n8)
  | .ldHlSpE8 e8 => .loadHlSpImm e8
  | .ldAAtA16 a16 => .loadAccumulator (.atA16 a16)
  | .cpN8 n8 => .accumulate .cp (.imm n8)
  | .nop => .noOperation
  | .ldAtBcA => .storeAccumulator .atBc
  | .incBc => .incPair .bc
  | .incB => .incOperand (.reg .b)
  | .decB => .decOperand (.reg .b)
  | .rlca => .rotateA .rlc
  | .addHlBc => .addHl .bc
  | .ldAAtBc => .loadAccumulator .atBc
  | .decBc => .decPair .bc
  | .incC => .incOperand (.reg .c)
  | .decC => .decOperand (.reg .c)
  | .rrca => .rotateA .rrc
  | .ldAtDeA => .storeAccumulator .atDe
  | .incDe => .incPair .de
  | .incD => .incOperand (.reg .d)
  | .decD => .decOperand (.reg .d)
  | .rla => .rotateA .rl
  | .addHlDe => .addHl .de
  | .ldAAtDe => .loadAccumulator .atDe
  | .decDe => .decPair .de
  | .incE => .incOperand (.reg .e)
  | .decE => .decOperand (.reg .e)
  | .rra => .rotateA .rr
  | .ldAtHlIncA => .storeAccumulator .atHlInc
  | .incHl => .incPair .hl
  | .incH => .incOperand (.reg .h)
  | .decH => .decOperand (.reg .h)
  | .daa => .decimalAdjust
  | .addHlHl => .addHl .hl
  | .ldAAtHlInc => .loadAccumulator .atHlInc
  | .decHl => .decPair .hl
  | .incL => .incOperand (.reg .l)
  | .decL => .decOperand (.reg .l)
  | .cpl => .complementA
  | .ldAtHlDecA => .storeAccumulator .atHlDec
  | .incSp => .incPair .sp
  | .incAtHl => .incOperand .atHl
  | .decAtHl => .decOperand .atHl
  | .scf => .setCarry
  | .addHlSp => .addHl .sp
  | .ldAAtHlDec => .loadAccumulator .atHlDec
  | .decSp => .decPair .sp
  | .incA => .incOperand (.reg .a)
  | .decA => .decOperand (.reg .a)
  | .ccf => .complementCarry
  | .ldBB => .moveReg .b .b
  | .ldBC => .moveReg .b .c
  | .ldBD => .moveReg .b .d
  | .ldBE => .moveReg .b .e
  | .ldBH => .moveReg .b .h
  | .ldBL => .moveReg .b .l
  | .ldBAtHl => .loadIndirect .b
  | .ldBA => .moveReg .b .a
  | .ldCB => .moveReg .c .b
  | .ldCC => .moveReg .c .c
  | .ldCD => .moveReg .c .d
  | .ldCE => .moveReg .c .e
  | .ldCH => .moveReg .c .h
  | .ldCL => .moveReg .c .l
  | .ldCAtHl => .loadIndirect .c
  | .ldCA => .moveReg .c .a
  | .ldDB => .moveReg .d .b
  | .ldDC => .moveReg .d .c
  | .ldDD => .moveReg .d .d
  | .ldDE => .moveReg .d .e
  | .ldDH => .moveReg .d .h
  | .ldDL => .moveReg .d .l
  | .ldDAtHl => .loadIndirect .d
  | .ldDA => .moveReg .d .a
  | .ldEB => .moveReg .e .b
  | .ldEC => .moveReg .e .c
  | .ldED => .moveReg .e .d
  | .ldEE => .moveReg .e .e
  | .ldEH => .moveReg .e .h
  | .ldEL => .moveReg .e .l
  | .ldEAtHl => .loadIndirect .e
  | .ldEA => .moveReg .e .a
  | .ldHB => .moveReg .h .b
  | .ldHC => .moveReg .h .c
  | .ldHD => .moveReg .h .d
  | .ldHE => .moveReg .h .e
  | .ldHH => .moveReg .h .h
  | .ldHL => .moveReg .h .l
  | .ldHAtHl => .loadIndirect .h
  | .ldHA => .moveReg .h .a
  | .ldLB => .moveReg .l .b
  | .ldLC => .moveReg .l .c
  | .ldLD => .moveReg .l .d
  | .ldLE => .moveReg .l .e
  | .ldLH => .moveReg .l .h
  | .ldLL => .moveReg .l .l
  | .ldLAtHl => .loadIndirect .l
  | .ldLA => .moveReg .l .a
  | .ldAtHlB => .storeIndirect .b
  | .ldAtHlC => .storeIndirect .c
  | .ldAtHlD => .storeIndirect .d
  | .ldAtHlE => .storeIndirect .e
  | .ldAtHlH => .storeIndirect .h
  | .ldAtHlL => .storeIndirect .l
  | .halt => .haltCore
  | .ldAtHlA => .storeIndirect .a
  | .ldAB => .moveReg .a .b
  | .ldAC => .moveReg .a .c
  | .ldAD => .moveReg .a .d
  | .ldAE => .moveReg .a .e
  | .ldAH => .moveReg .a .h
  | .ldAL => .moveReg .a .l
  | .ldAAtHl => .loadIndirect .a
  | .ldAA => .moveReg .a .a
  | .addAB => .accumulate .add (.reg .b)
  | .addAC => .accumulate .add (.reg .c)
  | .addAD => .accumulate .add (.reg .d)
  | .addAE => .accumulate .add (.reg .e)
  | .addAH => .accumulate .add (.reg .h)
  | .addAL => .accumulate .add (.reg .l)
  | .addAAtHl => .accumulate .add .atHl
  | .addAA => .accumulate .add (.reg .a)
  | .adcAB => .accumulate .adc (.reg .b)
  | .adcAC => .accumulate .adc (.reg .c)
  | .adcAD => .accumulate .adc (.reg .d)
  | .adcAE => .accumulate .adc (.reg .e)
  | .adcAH => .accumulate .adc (.reg .h)
  | .adcAL => .accumulate .adc (.reg .l)
  | .adcAAtHl => .accumulate .adc .atHl
  | .adcAA => .accumulate .adc (.reg .a)
  | .subB => .accumulate .sub (.reg .b)
  | .subC => .accumulate .sub (.reg .c)
  | .subD => .accumulate .sub (.reg .d)
  | .subE => .accumulate .sub (.reg .e)
  | .subH => .accumulate .sub (.reg .h)
  | .subL => .accumulate .sub (.reg .l)
  | .subAtHl => .accumulate .sub .atHl
  | .subA => .accumulate .sub (.reg .a)
  | .sbcAB => .accumulate .sbc (.reg .b)
  | .sbcAC => .accumulate .sbc (.reg .c)
  | .sbcAD => .accumulate .sbc (.reg .d)
  | .sbcAE => .accumulate .sbc (.reg .e)
  | .sbcAH => .accumulate .sbc (.reg .h)
  | .sbcAL => .accumulate .sbc (.reg .l)
  | .sbcAAtHl => .accumulate .sbc .atHl
  | .sbcAA => .accumulate .sbc (.reg .a)
  | .andB => .accumulate .and (.reg .b)
  | .andC => .accumulate .and (.reg .c)
  | .andD => .accumulate .and (.reg .d)
  | .andE => .accumulate .and (.reg .e)
  | .andH => .accumulate .and (.reg .h)
  | .andL => .accumulate .and (.reg .l)
  | .andAtHl => .accumulate .and .atHl
  | .andA => .accumulate .and (.reg .a)
  | .xorB => .accumulate .xor (.reg .b)
  | .xorC => .accumulate .xor (.reg .c)
  | .xorD => .accumulate .xor (.reg .d)
  | .xorE => .accumulate .xor (.reg .e)
  | .xorH => .accumulate .xor (.reg .h)
  | .xorL => .accumulate .xor (.reg .l)
  | .xorAtHl => .accumulate .xor .atHl
  | .xorA => .accumulate .xor (.reg .a)
  | .orB => .accumulate .or (.reg .b)
  | .orC => .accumulate .or (.reg .c)
  | .orD => .accumulate .or (.reg .d)
  | .orE => .accumulate .or (.reg .e)
  | .orH => .accumulate .or (.reg .h)
  | .orL => .accumulate .or (.reg .l)
  | .orAtHl => .accumulate .or .atHl
  | .orA => .accumulate .or (.reg .a)
  | .cpB => .accumulate .cp (.reg .b)
  | .cpC => .accumulate .cp (.reg .c)
  | .cpD => .accumulate .cp (.reg .d)
  | .cpE => .accumulate .cp (.reg .e)
  | .cpH => .accumulate .cp (.reg .h)
  | .cpL => .accumulate .cp (.reg .l)
  | .cpAtHl => .accumulate .cp .atHl
  | .cpA => .accumulate .cp (.reg .a)
  | .retNz => .retIf .nz
  | .popBc => .popPair .bc
  | .pushBc => .pushPair .bc
  | .rst00 => .restart 0x00#8
  | .retZ => .retIf .z
  | .ret => .ret
  | .prefixCb => runCb_sharedCase _ s
  | .rst08 => .restart 0x08#8
  | .retNc => .retIf .nc
  | .popDe => .popPair .de
  | .illegalD3 => .illegalOpcode 0xD3#8
  | .pushDe => .pushPair .de
  | .rst10 => .restart 0x10#8
  | .retC => .retIf .c
  | .reti => .retInterrupt
  | .illegalDB => .illegalOpcode 0xDB#8
  | .illegalDD => .illegalOpcode 0xDD#8
  | .rst18 => .restart 0x18#8
  | .popHl => .popPair .hl
  | .ldhAtCA => .storeAccumulator .atC
  | .illegalE3 => .illegalOpcode 0xE3#8
  | .illegalE4 => .illegalOpcode 0xE4#8
  | .pushHl => .pushPair .hl
  | .rst20 => .restart 0x20#8
  | .jpHl => .jumpHl
  | .illegalEB => .illegalOpcode 0xEB#8
  | .illegalEC => .illegalOpcode 0xEC#8
  | .illegalED => .illegalOpcode 0xED#8
  | .rst28 => .restart 0x28#8
  | .popAf => .popPair .af
  | .ldhAAtC => .loadAccumulator .atC
  | .di => .disableInterrupts
  | .illegalF4 => .illegalOpcode 0xF4#8
  | .pushAf => .pushPair .af
  | .rst30 => .restart 0x30#8
  | .ldSpHl => .loadSpHl
  | .ei => .enableInterrupts
  | .illegalFC => .illegalOpcode 0xFC#8
  | .illegalFD => .illegalOpcode 0xFD#8
  | .rst38 => .restart 0x38#8
  | .rlcB => .rotateOperand .rlc (.reg .b)
  | .rlcC => .rotateOperand .rlc (.reg .c)
  | .rlcD => .rotateOperand .rlc (.reg .d)
  | .rlcE => .rotateOperand .rlc (.reg .e)
  | .rlcH => .rotateOperand .rlc (.reg .h)
  | .rlcL => .rotateOperand .rlc (.reg .l)
  | .rlcAtHl => .rotateOperand .rlc .atHl
  | .rlcA => .rotateOperand .rlc (.reg .a)
  | .rrcB => .rotateOperand .rrc (.reg .b)
  | .rrcC => .rotateOperand .rrc (.reg .c)
  | .rrcD => .rotateOperand .rrc (.reg .d)
  | .rrcE => .rotateOperand .rrc (.reg .e)
  | .rrcH => .rotateOperand .rrc (.reg .h)
  | .rrcL => .rotateOperand .rrc (.reg .l)
  | .rrcAtHl => .rotateOperand .rrc .atHl
  | .rrcA => .rotateOperand .rrc (.reg .a)
  | .rlB => .rotateOperand .rl (.reg .b)
  | .rlC => .rotateOperand .rl (.reg .c)
  | .rlD => .rotateOperand .rl (.reg .d)
  | .rlE => .rotateOperand .rl (.reg .e)
  | .rlH => .rotateOperand .rl (.reg .h)
  | .rlL => .rotateOperand .rl (.reg .l)
  | .rlAtHl => .rotateOperand .rl .atHl
  | .rlA => .rotateOperand .rl (.reg .a)
  | .rrB => .rotateOperand .rr (.reg .b)
  | .rrC => .rotateOperand .rr (.reg .c)
  | .rrD => .rotateOperand .rr (.reg .d)
  | .rrE => .rotateOperand .rr (.reg .e)
  | .rrH => .rotateOperand .rr (.reg .h)
  | .rrL => .rotateOperand .rr (.reg .l)
  | .rrAtHl => .rotateOperand .rr .atHl
  | .rrA => .rotateOperand .rr (.reg .a)
  | .slaB => .rotateOperand .sla (.reg .b)
  | .slaC => .rotateOperand .sla (.reg .c)
  | .slaD => .rotateOperand .sla (.reg .d)
  | .slaE => .rotateOperand .sla (.reg .e)
  | .slaH => .rotateOperand .sla (.reg .h)
  | .slaL => .rotateOperand .sla (.reg .l)
  | .slaAtHl => .rotateOperand .sla .atHl
  | .slaA => .rotateOperand .sla (.reg .a)
  | .sraB => .rotateOperand .sra (.reg .b)
  | .sraC => .rotateOperand .sra (.reg .c)
  | .sraD => .rotateOperand .sra (.reg .d)
  | .sraE => .rotateOperand .sra (.reg .e)
  | .sraH => .rotateOperand .sra (.reg .h)
  | .sraL => .rotateOperand .sra (.reg .l)
  | .sraAtHl => .rotateOperand .sra .atHl
  | .sraA => .rotateOperand .sra (.reg .a)
  | .swapB => .rotateOperand .swap (.reg .b)
  | .swapC => .rotateOperand .swap (.reg .c)
  | .swapD => .rotateOperand .swap (.reg .d)
  | .swapE => .rotateOperand .swap (.reg .e)
  | .swapH => .rotateOperand .swap (.reg .h)
  | .swapL => .rotateOperand .swap (.reg .l)
  | .swapAtHl => .rotateOperand .swap .atHl
  | .swapA => .rotateOperand .swap (.reg .a)
  | .srlB => .rotateOperand .srl (.reg .b)
  | .srlC => .rotateOperand .srl (.reg .c)
  | .srlD => .rotateOperand .srl (.reg .d)
  | .srlE => .rotateOperand .srl (.reg .e)
  | .srlH => .rotateOperand .srl (.reg .h)
  | .srlL => .rotateOperand .srl (.reg .l)
  | .srlAtHl => .rotateOperand .srl .atHl
  | .srlA => .rotateOperand .srl (.reg .a)
  | .bit0B => .testBit 0#3 (.reg .b)
  | .bit0C => .testBit 0#3 (.reg .c)
  | .bit0D => .testBit 0#3 (.reg .d)
  | .bit0E => .testBit 0#3 (.reg .e)
  | .bit0H => .testBit 0#3 (.reg .h)
  | .bit0L => .testBit 0#3 (.reg .l)
  | .bit0AtHl => .testBit 0#3 .atHl
  | .bit0A => .testBit 0#3 (.reg .a)
  | .bit1B => .testBit 1#3 (.reg .b)
  | .bit1C => .testBit 1#3 (.reg .c)
  | .bit1D => .testBit 1#3 (.reg .d)
  | .bit1E => .testBit 1#3 (.reg .e)
  | .bit1H => .testBit 1#3 (.reg .h)
  | .bit1L => .testBit 1#3 (.reg .l)
  | .bit1AtHl => .testBit 1#3 .atHl
  | .bit1A => .testBit 1#3 (.reg .a)
  | .bit2B => .testBit 2#3 (.reg .b)
  | .bit2C => .testBit 2#3 (.reg .c)
  | .bit2D => .testBit 2#3 (.reg .d)
  | .bit2E => .testBit 2#3 (.reg .e)
  | .bit2H => .testBit 2#3 (.reg .h)
  | .bit2L => .testBit 2#3 (.reg .l)
  | .bit2AtHl => .testBit 2#3 .atHl
  | .bit2A => .testBit 2#3 (.reg .a)
  | .bit3B => .testBit 3#3 (.reg .b)
  | .bit3C => .testBit 3#3 (.reg .c)
  | .bit3D => .testBit 3#3 (.reg .d)
  | .bit3E => .testBit 3#3 (.reg .e)
  | .bit3H => .testBit 3#3 (.reg .h)
  | .bit3L => .testBit 3#3 (.reg .l)
  | .bit3AtHl => .testBit 3#3 .atHl
  | .bit3A => .testBit 3#3 (.reg .a)
  | .bit4B => .testBit 4#3 (.reg .b)
  | .bit4C => .testBit 4#3 (.reg .c)
  | .bit4D => .testBit 4#3 (.reg .d)
  | .bit4E => .testBit 4#3 (.reg .e)
  | .bit4H => .testBit 4#3 (.reg .h)
  | .bit4L => .testBit 4#3 (.reg .l)
  | .bit4AtHl => .testBit 4#3 .atHl
  | .bit4A => .testBit 4#3 (.reg .a)
  | .bit5B => .testBit 5#3 (.reg .b)
  | .bit5C => .testBit 5#3 (.reg .c)
  | .bit5D => .testBit 5#3 (.reg .d)
  | .bit5E => .testBit 5#3 (.reg .e)
  | .bit5H => .testBit 5#3 (.reg .h)
  | .bit5L => .testBit 5#3 (.reg .l)
  | .bit5AtHl => .testBit 5#3 .atHl
  | .bit5A => .testBit 5#3 (.reg .a)
  | .bit6B => .testBit 6#3 (.reg .b)
  | .bit6C => .testBit 6#3 (.reg .c)
  | .bit6D => .testBit 6#3 (.reg .d)
  | .bit6E => .testBit 6#3 (.reg .e)
  | .bit6H => .testBit 6#3 (.reg .h)
  | .bit6L => .testBit 6#3 (.reg .l)
  | .bit6AtHl => .testBit 6#3 .atHl
  | .bit6A => .testBit 6#3 (.reg .a)
  | .bit7B => .testBit 7#3 (.reg .b)
  | .bit7C => .testBit 7#3 (.reg .c)
  | .bit7D => .testBit 7#3 (.reg .d)
  | .bit7E => .testBit 7#3 (.reg .e)
  | .bit7H => .testBit 7#3 (.reg .h)
  | .bit7L => .testBit 7#3 (.reg .l)
  | .bit7AtHl => .testBit 7#3 .atHl
  | .bit7A => .testBit 7#3 (.reg .a)
  | .res0B => .resetBit 0#3 (.reg .b)
  | .res0C => .resetBit 0#3 (.reg .c)
  | .res0D => .resetBit 0#3 (.reg .d)
  | .res0E => .resetBit 0#3 (.reg .e)
  | .res0H => .resetBit 0#3 (.reg .h)
  | .res0L => .resetBit 0#3 (.reg .l)
  | .res0AtHl => .resetBit 0#3 .atHl
  | .res0A => .resetBit 0#3 (.reg .a)
  | .res1B => .resetBit 1#3 (.reg .b)
  | .res1C => .resetBit 1#3 (.reg .c)
  | .res1D => .resetBit 1#3 (.reg .d)
  | .res1E => .resetBit 1#3 (.reg .e)
  | .res1H => .resetBit 1#3 (.reg .h)
  | .res1L => .resetBit 1#3 (.reg .l)
  | .res1AtHl => .resetBit 1#3 .atHl
  | .res1A => .resetBit 1#3 (.reg .a)
  | .res2B => .resetBit 2#3 (.reg .b)
  | .res2C => .resetBit 2#3 (.reg .c)
  | .res2D => .resetBit 2#3 (.reg .d)
  | .res2E => .resetBit 2#3 (.reg .e)
  | .res2H => .resetBit 2#3 (.reg .h)
  | .res2L => .resetBit 2#3 (.reg .l)
  | .res2AtHl => .resetBit 2#3 .atHl
  | .res2A => .resetBit 2#3 (.reg .a)
  | .res3B => .resetBit 3#3 (.reg .b)
  | .res3C => .resetBit 3#3 (.reg .c)
  | .res3D => .resetBit 3#3 (.reg .d)
  | .res3E => .resetBit 3#3 (.reg .e)
  | .res3H => .resetBit 3#3 (.reg .h)
  | .res3L => .resetBit 3#3 (.reg .l)
  | .res3AtHl => .resetBit 3#3 .atHl
  | .res3A => .resetBit 3#3 (.reg .a)
  | .res4B => .resetBit 4#3 (.reg .b)
  | .res4C => .resetBit 4#3 (.reg .c)
  | .res4D => .resetBit 4#3 (.reg .d)
  | .res4E => .resetBit 4#3 (.reg .e)
  | .res4H => .resetBit 4#3 (.reg .h)
  | .res4L => .resetBit 4#3 (.reg .l)
  | .res4AtHl => .resetBit 4#3 .atHl
  | .res4A => .resetBit 4#3 (.reg .a)
  | .res5B => .resetBit 5#3 (.reg .b)
  | .res5C => .resetBit 5#3 (.reg .c)
  | .res5D => .resetBit 5#3 (.reg .d)
  | .res5E => .resetBit 5#3 (.reg .e)
  | .res5H => .resetBit 5#3 (.reg .h)
  | .res5L => .resetBit 5#3 (.reg .l)
  | .res5AtHl => .resetBit 5#3 .atHl
  | .res5A => .resetBit 5#3 (.reg .a)
  | .res6B => .resetBit 6#3 (.reg .b)
  | .res6C => .resetBit 6#3 (.reg .c)
  | .res6D => .resetBit 6#3 (.reg .d)
  | .res6E => .resetBit 6#3 (.reg .e)
  | .res6H => .resetBit 6#3 (.reg .h)
  | .res6L => .resetBit 6#3 (.reg .l)
  | .res6AtHl => .resetBit 6#3 .atHl
  | .res6A => .resetBit 6#3 (.reg .a)
  | .res7B => .resetBit 7#3 (.reg .b)
  | .res7C => .resetBit 7#3 (.reg .c)
  | .res7D => .resetBit 7#3 (.reg .d)
  | .res7E => .resetBit 7#3 (.reg .e)
  | .res7H => .resetBit 7#3 (.reg .h)
  | .res7L => .resetBit 7#3 (.reg .l)
  | .res7AtHl => .resetBit 7#3 .atHl
  | .res7A => .resetBit 7#3 (.reg .a)
  | .set0B => .setBit 0#3 (.reg .b)
  | .set0C => .setBit 0#3 (.reg .c)
  | .set0D => .setBit 0#3 (.reg .d)
  | .set0E => .setBit 0#3 (.reg .e)
  | .set0H => .setBit 0#3 (.reg .h)
  | .set0L => .setBit 0#3 (.reg .l)
  | .set0AtHl => .setBit 0#3 .atHl
  | .set0A => .setBit 0#3 (.reg .a)
  | .set1B => .setBit 1#3 (.reg .b)
  | .set1C => .setBit 1#3 (.reg .c)
  | .set1D => .setBit 1#3 (.reg .d)
  | .set1E => .setBit 1#3 (.reg .e)
  | .set1H => .setBit 1#3 (.reg .h)
  | .set1L => .setBit 1#3 (.reg .l)
  | .set1AtHl => .setBit 1#3 .atHl
  | .set1A => .setBit 1#3 (.reg .a)
  | .set2B => .setBit 2#3 (.reg .b)
  | .set2C => .setBit 2#3 (.reg .c)
  | .set2D => .setBit 2#3 (.reg .d)
  | .set2E => .setBit 2#3 (.reg .e)
  | .set2H => .setBit 2#3 (.reg .h)
  | .set2L => .setBit 2#3 (.reg .l)
  | .set2AtHl => .setBit 2#3 .atHl
  | .set2A => .setBit 2#3 (.reg .a)
  | .set3B => .setBit 3#3 (.reg .b)
  | .set3C => .setBit 3#3 (.reg .c)
  | .set3D => .setBit 3#3 (.reg .d)
  | .set3E => .setBit 3#3 (.reg .e)
  | .set3H => .setBit 3#3 (.reg .h)
  | .set3L => .setBit 3#3 (.reg .l)
  | .set3AtHl => .setBit 3#3 .atHl
  | .set3A => .setBit 3#3 (.reg .a)
  | .set4B => .setBit 4#3 (.reg .b)
  | .set4C => .setBit 4#3 (.reg .c)
  | .set4D => .setBit 4#3 (.reg .d)
  | .set4E => .setBit 4#3 (.reg .e)
  | .set4H => .setBit 4#3 (.reg .h)
  | .set4L => .setBit 4#3 (.reg .l)
  | .set4AtHl => .setBit 4#3 .atHl
  | .set4A => .setBit 4#3 (.reg .a)
  | .set5B => .setBit 5#3 (.reg .b)
  | .set5C => .setBit 5#3 (.reg .c)
  | .set5D => .setBit 5#3 (.reg .d)
  | .set5E => .setBit 5#3 (.reg .e)
  | .set5H => .setBit 5#3 (.reg .h)
  | .set5L => .setBit 5#3 (.reg .l)
  | .set5AtHl => .setBit 5#3 .atHl
  | .set5A => .setBit 5#3 (.reg .a)
  | .set6B => .setBit 6#3 (.reg .b)
  | .set6C => .setBit 6#3 (.reg .c)
  | .set6D => .setBit 6#3 (.reg .d)
  | .set6E => .setBit 6#3 (.reg .e)
  | .set6H => .setBit 6#3 (.reg .h)
  | .set6L => .setBit 6#3 (.reg .l)
  | .set6AtHl => .setBit 6#3 .atHl
  | .set6A => .setBit 6#3 (.reg .a)
  | .set7B => .setBit 7#3 (.reg .b)
  | .set7C => .setBit 7#3 (.reg .c)
  | .set7D => .setBit 7#3 (.reg .d)
  | .set7E => .setBit 7#3 (.reg .e)
  | .set7H => .setBit 7#3 (.reg .h)
  | .set7L => .setBit 7#3 (.reg .l)
  | .set7AtHl => .setBit 7#3 .atHl
  | .set7A => .setBit 7#3 (.reg .a)

/-! ## The rows a family's operands select -/

theorem exec_mkMove (dst : Reg8) (src : Reg8) (s : State) : exec (Instr.mkMove dst src) s = moveReg dst src s := by
  cases dst <;> cases src <;> rfl

theorem exec_mkLoadImm (r : Reg8) (n8 : Byte) (s : State) : exec (Instr.mkLoadImm r n8) s = loadImm r n8 s := by
  cases r <;> rfl

theorem exec_mkLoadAtHl (r : Reg8) (s : State) : exec (Instr.mkLoadAtHl r) s = loadIndirect r s := by
  cases r <;> rfl

theorem exec_mkStoreAtHl (r : Reg8) (s : State) : exec (Instr.mkStoreAtHl r) s = storeIndirect r s := by
  cases r <;> rfl

theorem exec_mkLoadPair (p : Pair) (n16 : Word16) (s : State) : exec (Instr.mkLoadPair p n16) s = loadPairImm p n16 s := by
  cases p <;> rfl

theorem exec_mkLoadA (m : AddrMode) (s : State) : exec (Instr.mkLoadA m) s = loadAccumulator m s := by
  cases m <;> rfl

theorem exec_mkStoreA (m : AddrMode) (s : State) : exec (Instr.mkStoreA m) s = storeAccumulator m s := by
  cases m <;> rfl

theorem exec_mkInc (o : Operand8) (s : State) : exec (Instr.mkInc o) s = incOperand o s := by
  rcases o with r | _ <;> first | rfl | cases r <;> rfl

theorem exec_mkDec (o : Operand8) (s : State) : exec (Instr.mkDec o) s = decOperand o s := by
  rcases o with r | _ <;> first | rfl | cases r <;> rfl

theorem exec_mkIncPair (p : Pair) (s : State) : exec (Instr.mkIncPair p) s = incPair p s := by
  cases p <;> rfl

theorem exec_mkDecPair (p : Pair) (s : State) : exec (Instr.mkDecPair p) s = decPair p s := by
  cases p <;> rfl

theorem exec_mkAddHl (p : Pair) (s : State) : exec (Instr.mkAddHl p) s = addHl p s := by
  cases p <;> rfl

theorem exec_mkAlu (op : AluOp) (src : Source) (s : State) : exec (Instr.mkAlu op src) s = accumulate op src s := by
  cases op <;> rcases src with r | _ | n8 <;> first | rfl | cases r <;> rfl

theorem exec_mkPush (q : StackPair) (s : State) : exec (Instr.mkPush q) s = pushPair q s := by
  cases q <;> rfl

theorem exec_mkPop (q : StackPair) (s : State) : exec (Instr.mkPop q) s = popPair q s := by
  cases q <;> rfl

theorem exec_mkJumpRel (cc : Cond) (e8 : Byte) (s : State) : exec (Instr.mkJumpRel cc e8) s = jumpRelIf cc e8 s := by
  cases cc <;> rfl

theorem exec_mkJump (cc : Cond) (a16 : Word16) (s : State) : exec (Instr.mkJump cc a16) s = jumpIf cc a16 s := by
  cases cc <;> rfl

theorem exec_mkCall (cc : Cond) (a16 : Word16) (s : State) : exec (Instr.mkCall cc a16) s = callIf cc a16 s := by
  cases cc <;> rfl

theorem exec_mkRet (cc : Cond) (s : State) : exec (Instr.mkRet cc) s = retIf cc s := by
  cases cc <;> rfl

theorem exec_mkRot (op : RotOp) (o : Operand8) (s : State) : exec (Instr.mkRot op o) s = rotateOperand op o s := by
  cases op <;> rcases o with r | _ <;> first | rfl | cases r <;> rfl

theorem exec_mkBit (b : BitVec 3) (o : Operand8) (s : State) : exec (Instr.mkBit b o) s = testBit b o s := by
  rcases b with ⟨⟨b, hb⟩⟩
  interval_cases b <;> rcases o with r | _ <;> first | rfl | cases r <;> rfl

theorem exec_mkRes (b : BitVec 3) (o : Operand8) (s : State) : exec (Instr.mkRes b o) s = resetBit b o s := by
  rcases b with ⟨⟨b, hb⟩⟩
  interval_cases b <;> rcases o with r | _ <;> first | rfl | cases r <;> rfl

theorem exec_mkSet (b : BitVec 3) (o : Operand8) (s : State) : exec (Instr.mkSet b o) s = setBit b o s := by
  rcases b with ⟨⟨b, hb⟩⟩
  interval_cases b <;> rcases o with r | _ <;> first | rfl | cases r <;> rfl

theorem exec_mkRst (y : BitVec 3) (s : State) : exec (Instr.mkRst y) s = restart (y.setWidth 8 <<< 3) s := by
  rcases y with ⟨⟨y, hy⟩⟩
  interval_cases y <;> rfl

end Sys2Proof.Machine
end

