-- ==== Sys2Proof/Laws/State.lean ====
section
/-! SUPPORT. What each operation on the state does to each field: one lemma per field per update, and the same for the
views of the fields (registers, flags, bytes of memory). -/

namespace Sys2Proof.Machine

/-! ## The two bytes of a pair -/

@[simp] theorem hiByte_writeHi (p : Word16) (v : Byte) : hiByte (writeHi p v) = v := by
  simp only [hiByte, writeHi]; ext i hi; interval_cases i <;> simp

@[simp] theorem loByte_writeHi (p : Word16) (v : Byte) : loByte (writeHi p v) = loByte p := by
  simp only [loByte, writeHi]; ext i hi; interval_cases i <;> simp

@[simp] theorem hiByte_writeLo (p : Word16) (v : Byte) : hiByte (writeLo p v) = hiByte p := by
  simp only [hiByte, writeLo]; ext i hi; interval_cases i <;> simp

@[simp] theorem loByte_writeLo (p : Word16) (v : Byte) : loByte (writeLo p v) = v := by
  simp only [loByte, writeLo]; ext i hi; interval_cases i <;> simp

@[simp] theorem hiByte_and (v w : Word16) : hiByte (v &&& w) = hiByte v &&& hiByte w := by
  simp only [hiByte]; ext i hi; simp

@[simp] theorem loByte_and (v w : Word16) : loByte (v &&& w) = loByte v &&& loByte w := by
  simp only [loByte]; ext i hi; simp

/-! ## One byte of memory -/

@[simp] theorem State.writeByte_af (s : State) (a : Word16) (v : Byte) : (s.writeByte a v).af = s.af := rfl
@[simp] theorem State.writeByte_bc (s : State) (a : Word16) (v : Byte) : (s.writeByte a v).bc = s.bc := rfl
@[simp] theorem State.writeByte_de (s : State) (a : Word16) (v : Byte) : (s.writeByte a v).de = s.de := rfl
@[simp] theorem State.writeByte_hl (s : State) (a : Word16) (v : Byte) : (s.writeByte a v).hl = s.hl := rfl
@[simp] theorem State.writeByte_sp (s : State) (a : Word16) (v : Byte) : (s.writeByte a v).sp = s.sp := rfl
@[simp] theorem State.writeByte_pc (s : State) (a : Word16) (v : Byte) : (s.writeByte a v).pc = s.pc := rfl
@[simp] theorem State.writeByte_ime (s : State) (a : Word16) (v : Byte) : (s.writeByte a v).ime = s.ime := rfl
@[simp] theorem State.writeByte_eiPending (s : State) (a : Word16) (v : Byte) : (s.writeByte a v).eiPending = s.eiPending := rfl
@[simp] theorem State.writeByte_mode (s : State) (a : Word16) (v : Byte) : (s.writeByte a v).mode = s.mode := rfl
@[simp] theorem State.writeByte_haltBug (s : State) (a : Word16) (v : Byte) : (s.writeByte a v).haltBug = s.haltBug := rfl
@[simp] theorem State.writeByte_cycles (s : State) (a : Word16) (v : Byte) : (s.writeByte a v).cycles = s.cycles := rfl
@[simp] theorem State.writeByte_fault (s : State) (a : Word16) (v : Byte) : (s.writeByte a v).fault = s.fault := rfl
@[simp] theorem State.writeByte_mem (s : State) (a : Word16) (v : Byte) : (s.writeByte a v).mem = Memory.write s.mem a.toNat v := rfl
@[simp] theorem State.writeByte_reg (s : State) (a : Word16) (v : Byte) (r : Reg8) : (s.writeByte a v).reg r = s.reg r := rfl
@[simp] theorem State.writeByte_f (s : State) (a : Word16) (v : Byte) : (s.writeByte a v).f = s.f := rfl
@[simp] theorem State.writeByte_flags (s : State) (a : Word16) (v : Byte) : (s.writeByte a v).flags = s.flags := rfl
@[simp] theorem State.writeByte_pair (s : State) (a : Word16) (v : Byte) (p : Pair) : (s.writeByte a v).pair p = s.pair p := rfl
@[simp] theorem State.writeByte_stackPair (s : State) (a : Word16) (v : Byte) (q : StackPair) : (s.writeByte a v).stackPair q = s.stackPair q := rfl

/-! ## Two bytes of memory -/

@[simp] theorem State.writeWord_af (s : State) (a v : Word16) : (s.writeWord a v).af = s.af := rfl
@[simp] theorem State.writeWord_bc (s : State) (a v : Word16) : (s.writeWord a v).bc = s.bc := rfl
@[simp] theorem State.writeWord_de (s : State) (a v : Word16) : (s.writeWord a v).de = s.de := rfl
@[simp] theorem State.writeWord_hl (s : State) (a v : Word16) : (s.writeWord a v).hl = s.hl := rfl
@[simp] theorem State.writeWord_sp (s : State) (a v : Word16) : (s.writeWord a v).sp = s.sp := rfl
@[simp] theorem State.writeWord_pc (s : State) (a v : Word16) : (s.writeWord a v).pc = s.pc := rfl
@[simp] theorem State.writeWord_ime (s : State) (a v : Word16) : (s.writeWord a v).ime = s.ime := rfl
@[simp] theorem State.writeWord_eiPending (s : State) (a v : Word16) : (s.writeWord a v).eiPending = s.eiPending := rfl
@[simp] theorem State.writeWord_mode (s : State) (a v : Word16) : (s.writeWord a v).mode = s.mode := rfl
@[simp] theorem State.writeWord_haltBug (s : State) (a v : Word16) : (s.writeWord a v).haltBug = s.haltBug := rfl
@[simp] theorem State.writeWord_cycles (s : State) (a v : Word16) : (s.writeWord a v).cycles = s.cycles := rfl
@[simp] theorem State.writeWord_fault (s : State) (a v : Word16) : (s.writeWord a v).fault = s.fault := rfl
@[simp] theorem State.writeWord_reg (s : State) (a v : Word16) (r : Reg8) : (s.writeWord a v).reg r = s.reg r := rfl
@[simp] theorem State.writeWord_f (s : State) (a v : Word16) : (s.writeWord a v).f = s.f := rfl
@[simp] theorem State.writeWord_flags (s : State) (a v : Word16) : (s.writeWord a v).flags = s.flags := rfl

/-! ## 8-bit registers and F -/

@[simp] theorem State.setReg_sp (s : State) (r : Reg8) (v : Byte) : (s.setReg r v).sp = s.sp := by cases r <;> rfl
@[simp] theorem State.setReg_pc (s : State) (r : Reg8) (v : Byte) : (s.setReg r v).pc = s.pc := by cases r <;> rfl
@[simp] theorem State.setReg_ime (s : State) (r : Reg8) (v : Byte) : (s.setReg r v).ime = s.ime := by cases r <;> rfl
@[simp] theorem State.setReg_eiPending (s : State) (r : Reg8) (v : Byte) : (s.setReg r v).eiPending = s.eiPending := by cases r <;> rfl
@[simp] theorem State.setReg_mode (s : State) (r : Reg8) (v : Byte) : (s.setReg r v).mode = s.mode := by cases r <;> rfl
@[simp] theorem State.setReg_haltBug (s : State) (r : Reg8) (v : Byte) : (s.setReg r v).haltBug = s.haltBug := by cases r <;> rfl
@[simp] theorem State.setReg_cycles (s : State) (r : Reg8) (v : Byte) : (s.setReg r v).cycles = s.cycles := by cases r <;> rfl
@[simp] theorem State.setReg_fault (s : State) (r : Reg8) (v : Byte) : (s.setReg r v).fault = s.fault := by cases r <;> rfl
@[simp] theorem State.setReg_mem (s : State) (r : Reg8) (v : Byte) : (s.setReg r v).mem = s.mem := by cases r <;> rfl
@[simp] theorem State.setReg_readByte (s : State) (r : Reg8) (v : Byte) (a : Word16) : (s.setReg r v).readByte a = s.readByte a := by cases r <;> rfl
@[simp] theorem State.setReg_f (s : State) (r : Reg8) (v : Byte) : (s.setReg r v).f = s.f := by cases r <;> simp [State.setReg, State.f]
@[simp] theorem State.setReg_flags (s : State) (r : Reg8) (v : Byte) : (s.setReg r v).flags = s.flags := by simp [State.flags]
@[simp] theorem State.setReg_reg_same (s : State) (r : Reg8) (v : Byte) : (s.setReg r v).reg r = v := by cases r <;> simp [State.setReg, State.reg]

theorem State.setReg_reg_other (s : State) {r r' : Reg8} (v : Byte) (h : r' ≠ r) : (s.setReg r v).reg r' = s.reg r' := by
  cases r <;> cases r' <;> first | exact absurd rfl h | simp [State.setReg, State.reg]

@[simp] theorem State.setF_bc (s : State) (v : Byte) : (s.setF v).bc = s.bc := rfl
@[simp] theorem State.setF_de (s : State) (v : Byte) : (s.setF v).de = s.de := rfl
@[simp] theorem State.setF_hl (s : State) (v : Byte) : (s.setF v).hl = s.hl := rfl
@[simp] theorem State.setF_sp (s : State) (v : Byte) : (s.setF v).sp = s.sp := rfl
@[simp] theorem State.setF_pc (s : State) (v : Byte) : (s.setF v).pc = s.pc := rfl
@[simp] theorem State.setF_ime (s : State) (v : Byte) : (s.setF v).ime = s.ime := rfl
@[simp] theorem State.setF_eiPending (s : State) (v : Byte) : (s.setF v).eiPending = s.eiPending := rfl
@[simp] theorem State.setF_mode (s : State) (v : Byte) : (s.setF v).mode = s.mode := rfl
@[simp] theorem State.setF_haltBug (s : State) (v : Byte) : (s.setF v).haltBug = s.haltBug := rfl
@[simp] theorem State.setF_cycles (s : State) (v : Byte) : (s.setF v).cycles = s.cycles := rfl
@[simp] theorem State.setF_fault (s : State) (v : Byte) : (s.setF v).fault = s.fault := rfl
@[simp] theorem State.setF_mem (s : State) (v : Byte) : (s.setF v).mem = s.mem := rfl
@[simp] theorem State.setF_readByte (s : State) (v : Byte) (a : Word16) : (s.setF v).readByte a = s.readByte a := rfl
@[simp] theorem State.setF_reg (s : State) (v : Byte) (r : Reg8) : (s.setF v).reg r = s.reg r := by cases r <;> simp [State.setF, State.reg]
@[simp] theorem State.setF_f (s : State) (v : Byte) : (s.setF v).f = v &&& 0xF0#8 := by simp [State.setF, State.f]
@[simp] theorem State.setF_flags (s : State) (v : Byte) : (s.setF v).flags = { z := v.getLsbD 7, n := v.getLsbD 6, h := v.getLsbD 5, c := v.getLsbD 4 } := by simp [State.flags]

@[simp] theorem State.setFlags_bc (s : State) (x : Flags) : (s.setFlags x).bc = s.bc := rfl
@[simp] theorem State.setFlags_de (s : State) (x : Flags) : (s.setFlags x).de = s.de := rfl
@[simp] theorem State.setFlags_hl (s : State) (x : Flags) : (s.setFlags x).hl = s.hl := rfl
@[simp] theorem State.setFlags_sp (s : State) (x : Flags) : (s.setFlags x).sp = s.sp := rfl
@[simp] theorem State.setFlags_pc (s : State) (x : Flags) : (s.setFlags x).pc = s.pc := rfl
@[simp] theorem State.setFlags_ime (s : State) (x : Flags) : (s.setFlags x).ime = s.ime := rfl
@[simp] theorem State.setFlags_eiPending (s : State) (x : Flags) : (s.setFlags x).eiPending = s.eiPending := rfl
@[simp] theorem State.setFlags_mode (s : State) (x : Flags) : (s.setFlags x).mode = s.mode := rfl
@[simp] theorem State.setFlags_haltBug (s : State) (x : Flags) : (s.setFlags x).haltBug = s.haltBug := rfl
@[simp] theorem State.setFlags_cycles (s : State) (x : Flags) : (s.setFlags x).cycles = s.cycles := rfl
@[simp] theorem State.setFlags_fault (s : State) (x : Flags) : (s.setFlags x).fault = s.fault := rfl
@[simp] theorem State.setFlags_mem (s : State) (x : Flags) : (s.setFlags x).mem = s.mem := rfl
@[simp] theorem State.setFlags_readByte (s : State) (x : Flags) (a : Word16) : (s.setFlags x).readByte a = s.readByte a := rfl
@[simp] theorem State.setFlags_reg (s : State) (x : Flags) (r : Reg8) : (s.setFlags x).reg r = s.reg r := by simp [State.setFlags]
@[simp] theorem State.setFlags_f (s : State) (x : Flags) : (s.setFlags x).f = x.toByte := by
  obtain ⟨z, n, h, c⟩ := x
  simp only [State.setFlags, State.setF_f]
  cases z <;> cases n <;> cases h <;> cases c <;> rfl
@[simp] theorem State.setFlags_flags (s : State) (x : Flags) : (s.setFlags x).flags = x := by
  obtain ⟨z, n, h, c⟩ := x
  simp only [State.flags, State.setFlags_f]
  cases z <;> cases n <;> cases h <;> cases c <;> rfl

/-- "The low nibble of F is always zero" after every flag update (R21). -/
@[simp] theorem Flags.toByte_low (x : Flags) : x.toByte &&& 0x0F#8 = 0x00#8 := by
  obtain ⟨z, n, h, c⟩ := x
  cases z <;> cases n <;> cases h <;> cases c <;> rfl

/-! ## 16-bit registers -/

@[simp] theorem State.setPair_af (s : State) (p : Pair) (v : Word16) : (s.setPair p v).af = s.af := by cases p <;> rfl
@[simp] theorem State.setPair_pc (s : State) (p : Pair) (v : Word16) : (s.setPair p v).pc = s.pc := by cases p <;> rfl
@[simp] theorem State.setPair_ime (s : State) (p : Pair) (v : Word16) : (s.setPair p v).ime = s.ime := by cases p <;> rfl
@[simp] theorem State.setPair_eiPending (s : State) (p : Pair) (v : Word16) : (s.setPair p v).eiPending = s.eiPending := by cases p <;> rfl
@[simp] theorem State.setPair_mode (s : State) (p : Pair) (v : Word16) : (s.setPair p v).mode = s.mode := by cases p <;> rfl
@[simp] theorem State.setPair_haltBug (s : State) (p : Pair) (v : Word16) : (s.setPair p v).haltBug = s.haltBug := by cases p <;> rfl
@[simp] theorem State.setPair_cycles (s : State) (p : Pair) (v : Word16) : (s.setPair p v).cycles = s.cycles := by cases p <;> rfl
@[simp] theorem State.setPair_fault (s : State) (p : Pair) (v : Word16) : (s.setPair p v).fault = s.fault := by cases p <;> rfl
@[simp] theorem State.setPair_mem (s : State) (p : Pair) (v : Word16) : (s.setPair p v).mem = s.mem := by cases p <;> rfl
@[simp] theorem State.setPair_readByte (s : State) (p : Pair) (v : Word16) (a : Word16) : (s.setPair p v).readByte a = s.readByte a := by cases p <;> rfl
@[simp] theorem State.setPair_f (s : State) (p : Pair) (v : Word16) : (s.setPair p v).f = s.f := by cases p <;> rfl
@[simp] theorem State.setPair_flags (s : State) (p : Pair) (v : Word16) : (s.setPair p v).flags = s.flags := by cases p <;> rfl
@[simp] theorem State.setPair_pair_same (s : State) (p : Pair) (v : Word16) : (s.setPair p v).pair p = v := by cases p <;> rfl

@[simp] theorem State.setStackPair_sp (s : State) (q : StackPair) (v : Word16) : (s.setStackPair q v).sp = s.sp := by cases q <;> rfl
@[simp] theorem State.setStackPair_pc (s : State) (q : StackPair) (v : Word16) : (s.setStackPair q v).pc = s.pc := by cases q <;> rfl
@[simp] theorem State.setStackPair_ime (s : State) (q : StackPair) (v : Word16) : (s.setStackPair q v).ime = s.ime := by cases q <;> rfl
@[simp] theorem State.setStackPair_eiPending (s : State) (q : StackPair) (v : Word16) : (s.setStackPair q v).eiPending = s.eiPending := by cases q <;> rfl
@[simp] theorem State.setStackPair_mode (s : State) (q : StackPair) (v : Word16) : (s.setStackPair q v).mode = s.mode := by cases q <;> rfl
@[simp] theorem State.setStackPair_haltBug (s : State) (q : StackPair) (v : Word16) : (s.setStackPair q v).haltBug = s.haltBug := by cases q <;> rfl
@[simp] theorem State.setStackPair_cycles (s : State) (q : StackPair) (v : Word16) : (s.setStackPair q v).cycles = s.cycles := by cases q <;> rfl
@[simp] theorem State.setStackPair_fault (s : State) (q : StackPair) (v : Word16) : (s.setStackPair q v).fault = s.fault := by cases q <;> rfl
@[simp] theorem State.setStackPair_mem (s : State) (q : StackPair) (v : Word16) : (s.setStackPair q v).mem = s.mem := by cases q <;> rfl
@[simp] theorem State.setStackPair_readByte (s : State) (q : StackPair) (v : Word16) (a : Word16) : (s.setStackPair q v).readByte a = s.readByte a := by cases q <;> rfl
@[simp] theorem State.setStackPair_stackPair_same (s : State) (q : StackPair) (v : Word16) :
    (s.setStackPair q v).stackPair q = (if q = .af then v &&& 0xFFF0#16 else v) := by cases q <;> rfl

/-! ## The fetch -/

@[simp] theorem State.fetch8_af (s : State) : (s.fetch8.2).af = s.af := by unfold State.fetch8; cases s.haltBug <;> rfl
@[simp] theorem State.fetch8_bc (s : State) : (s.fetch8.2).bc = s.bc := by unfold State.fetch8; cases s.haltBug <;> rfl
@[simp] theorem State.fetch8_de (s : State) : (s.fetch8.2).de = s.de := by unfold State.fetch8; cases s.haltBug <;> rfl
@[simp] theorem State.fetch8_hl (s : State) : (s.fetch8.2).hl = s.hl := by unfold State.fetch8; cases s.haltBug <;> rfl
@[simp] theorem State.fetch8_sp (s : State) : (s.fetch8.2).sp = s.sp := by unfold State.fetch8; cases s.haltBug <;> rfl
@[simp] theorem State.fetch8_ime (s : State) : (s.fetch8.2).ime = s.ime := by unfold State.fetch8; cases s.haltBug <;> rfl
@[simp] theorem State.fetch8_eiPending (s : State) : (s.fetch8.2).eiPending = s.eiPending := by unfold State.fetch8; cases s.haltBug <;> rfl
@[simp] theorem State.fetch8_mode (s : State) : (s.fetch8.2).mode = s.mode := by unfold State.fetch8; cases s.haltBug <;> rfl
@[simp] theorem State.fetch8_cycles (s : State) : (s.fetch8.2).cycles = s.cycles := by unfold State.fetch8; cases s.haltBug <;> rfl
@[simp] theorem State.fetch8_fault (s : State) : (s.fetch8.2).fault = s.fault := by unfold State.fetch8; cases s.haltBug <;> rfl
@[simp] theorem State.fetch8_mem (s : State) : (s.fetch8.2).mem = s.mem := by unfold State.fetch8; cases s.haltBug <;> rfl
@[simp] theorem State.fetch8_readByte (s : State) (a : Word16) : s.fetch8.2.readByte a = s.readByte a := by unfold State.fetch8; cases s.haltBug <;> rfl
@[simp] theorem State.fetch8_haltBug (s : State) : s.fetch8.2.haltBug = false := by unfold State.fetch8; cases h : s.haltBug <;> simp
@[simp] theorem State.fetch8_byte (s : State) : s.fetch8.1 = s.readByte s.pc := by unfold State.fetch8; cases s.haltBug <;> rfl
@[simp] theorem State.fetch8_pc (s : State) : s.fetch8.2.pc = if s.haltBug then s.pc else s.pc + 1#16 := by unfold State.fetch8; cases s.haltBug <;> rfl

/-- The fetches of an instruction of one or more bytes: PC past it, the halt bug cleared, and nothing else (R24, R50). -/
theorem State.fetched_succ (n : Nat) (s : State) :
    s.fetched (n + 1) = { s with pc := s.pcAfter (n + 1), haltBug := false } := by
  induction n generalizing s with
  | zero =>
    cases h : s.haltBug <;> simp [State.fetched, State.fetch8, State.pcAfter, h]
  | succ k ih =>
    rw [State.fetched, ih]
    cases h : s.haltBug <;> simp [State.fetch8, State.pcAfter, h] <;> rw [← BitVec.toNat_inj] <;>
      simp [BitVec.toNat_sub, BitVec.toNat_add] <;> omega

@[simp] theorem State.fetched_af (n : Nat) (s : State) : (s.fetched n).af = s.af := by
  cases n with
  | zero => rfl
  | succ n => rw [State.fetched_succ]
@[simp] theorem State.fetched_bc (n : Nat) (s : State) : (s.fetched n).bc = s.bc := by
  cases n with
  | zero => rfl
  | succ n => rw [State.fetched_succ]
@[simp] theorem State.fetched_de (n : Nat) (s : State) : (s.fetched n).de = s.de := by
  cases n with
  | zero => rfl
  | succ n => rw [State.fetched_succ]
@[simp] theorem State.fetched_hl (n : Nat) (s : State) : (s.fetched n).hl = s.hl := by
  cases n with
  | zero => rfl
  | succ n => rw [State.fetched_succ]
@[simp] theorem State.fetched_sp (n : Nat) (s : State) : (s.fetched n).sp = s.sp := by
  cases n with
  | zero => rfl
  | succ n => rw [State.fetched_succ]
@[simp] theorem State.fetched_ime (n : Nat) (s : State) : (s.fetched n).ime = s.ime := by
  cases n with
  | zero => rfl
  | succ n => rw [State.fetched_succ]
@[simp] theorem State.fetched_eiPending (n : Nat) (s : State) : (s.fetched n).eiPending = s.eiPending := by
  cases n with
  | zero => rfl
  | succ n => rw [State.fetched_succ]
@[simp] theorem State.fetched_mode (n : Nat) (s : State) : (s.fetched n).mode = s.mode := by
  cases n with
  | zero => rfl
  | succ n => rw [State.fetched_succ]
@[simp] theorem State.fetched_cycles (n : Nat) (s : State) : (s.fetched n).cycles = s.cycles := by
  cases n with
  | zero => rfl
  | succ n => rw [State.fetched_succ]
@[simp] theorem State.fetched_fault (n : Nat) (s : State) : (s.fetched n).fault = s.fault := by
  cases n with
  | zero => rfl
  | succ n => rw [State.fetched_succ]
@[simp] theorem State.fetched_mem (n : Nat) (s : State) : (s.fetched n).mem = s.mem := by
  cases n with
  | zero => rfl
  | succ n => rw [State.fetched_succ]
@[simp] theorem State.fetched_readByte (n : Nat) (s : State) (a : Word16) : (s.fetched n).readByte a = s.readByte a := by
  cases n with
  | zero => rfl
  | succ n => rw [State.fetched_succ]; rfl
@[simp] theorem State.fetched_reg (n : Nat) (s : State) (r : Reg8) : (s.fetched n).reg r = s.reg r := by
  cases n with
  | zero => rfl
  | succ n => rw [State.fetched_succ]; rfl
@[simp] theorem State.fetched_f (n : Nat) (s : State) : (s.fetched n).f = s.f := by
  cases n with
  | zero => rfl
  | succ n => rw [State.fetched_succ]; rfl
@[simp] theorem State.fetched_flags (n : Nat) (s : State) : (s.fetched n).flags = s.flags := by
  cases n with
  | zero => rfl
  | succ n => rw [State.fetched_succ]; rfl
@[simp] theorem State.fetched_pair (n : Nat) (s : State) (p : Pair) : (s.fetched n).pair p = s.pair p := by
  cases n with
  | zero => rfl
  | succ n => rw [State.fetched_succ]; rfl
@[simp] theorem State.fetched_stackPair (n : Nat) (s : State) (q : StackPair) : (s.fetched n).stackPair q = s.stackPair q := by
  cases n with
  | zero => rfl
  | succ n => rw [State.fetched_succ]; rfl
@[simp] theorem State.fetched_operand (n : Nat) (s : State) (o : Operand8) : (s.fetched n).operand o = s.operand o := by
  cases n with
  | zero => rfl
  | succ n => rw [State.fetched_succ]; rfl
@[simp] theorem State.fetched_source (n : Nat) (s : State) (src : Source) : (s.fetched n).source src = s.source src := by
  cases n with
  | zero => rfl
  | succ n => rw [State.fetched_succ]; rfl
@[simp] theorem State.fetched_pending (n : Nat) (s : State) : (s.fetched n).pending = s.pending := by
  cases n with
  | zero => rfl
  | succ n => rw [State.fetched_succ]; rfl
@[simp] theorem State.fetched_cond (n : Nat) (s : State) (cc : Cond) : (s.fetched n).cond cc = s.cond cc := by
  cases n with
  | zero => rfl
  | succ n => rw [State.fetched_succ]; rfl
@[simp] theorem State.fetched_effectiveAddress (n : Nat) (s : State) (m : AddrMode) : (s.fetched n).effectiveAddress m = s.effectiveAddress m := by
  cases n with
  | zero => rfl
  | succ n => rw [State.fetched_succ]; rfl
@[simp] theorem State.fetched_pc (n : Nat) (s : State) : (s.fetched (n + 1)).pc = s.pcAfter (n + 1) := by
  rw [State.fetched_succ]
@[simp] theorem State.fetched_haltBug (n : Nat) (s : State) : (s.fetched (n + 1)).haltBug = false := by
  rw [State.fetched_succ]

/-- The instruction the fetches read is the one the bytes of the stream decode to. -/
theorem State.nextInstr_eq (s : State) :
    s.nextInstr = if s.haltBug then decodeWindow (s.readByte s.pc) (s.readByte s.pc) (s.readByte (s.pc + 1#16))
      else decodeWindow (s.readByte s.pc) (s.readByte (s.pc + 1#16)) (s.readByte (s.pc + 2#16)) := by
  cases h : s.haltBug <;> simp [State.nextInstr, h, BitVec.add_assoc]

/-! ## The stack -/

@[simp] theorem State.push16_af (s : State) (v : Word16) : (s.push16 v).af = s.af := rfl
@[simp] theorem State.push16_bc (s : State) (v : Word16) : (s.push16 v).bc = s.bc := rfl
@[simp] theorem State.push16_de (s : State) (v : Word16) : (s.push16 v).de = s.de := rfl
@[simp] theorem State.push16_hl (s : State) (v : Word16) : (s.push16 v).hl = s.hl := rfl
@[simp] theorem State.push16_pc (s : State) (v : Word16) : (s.push16 v).pc = s.pc := rfl
@[simp] theorem State.push16_ime (s : State) (v : Word16) : (s.push16 v).ime = s.ime := rfl
@[simp] theorem State.push16_eiPending (s : State) (v : Word16) : (s.push16 v).eiPending = s.eiPending := rfl
@[simp] theorem State.push16_mode (s : State) (v : Word16) : (s.push16 v).mode = s.mode := rfl
@[simp] theorem State.push16_haltBug (s : State) (v : Word16) : (s.push16 v).haltBug = s.haltBug := rfl
@[simp] theorem State.push16_cycles (s : State) (v : Word16) : (s.push16 v).cycles = s.cycles := rfl
@[simp] theorem State.push16_fault (s : State) (v : Word16) : (s.push16 v).fault = s.fault := rfl
@[simp] theorem State.push16_reg (s : State) (v : Word16) (r : Reg8) : (s.push16 v).reg r = s.reg r := rfl
@[simp] theorem State.push16_f (s : State) (v : Word16) : (s.push16 v).f = s.f := rfl
@[simp] theorem State.push16_flags (s : State) (v : Word16) : (s.push16 v).flags = s.flags := rfl
@[simp] theorem State.push16_sp (s : State) (v : Word16) : (s.push16 v).sp = s.sp - 2#16 := by
  simp [State.push16]; bv_omega

@[simp] theorem State.pop16_af (s : State) : (s.pop16.2).af = s.af := rfl
@[simp] theorem State.pop16_bc (s : State) : (s.pop16.2).bc = s.bc := rfl
@[simp] theorem State.pop16_de (s : State) : (s.pop16.2).de = s.de := rfl
@[simp] theorem State.pop16_hl (s : State) : (s.pop16.2).hl = s.hl := rfl
@[simp] theorem State.pop16_pc (s : State) : (s.pop16.2).pc = s.pc := rfl
@[simp] theorem State.pop16_ime (s : State) : (s.pop16.2).ime = s.ime := rfl
@[simp] theorem State.pop16_eiPending (s : State) : (s.pop16.2).eiPending = s.eiPending := rfl
@[simp] theorem State.pop16_mode (s : State) : (s.pop16.2).mode = s.mode := rfl
@[simp] theorem State.pop16_haltBug (s : State) : (s.pop16.2).haltBug = s.haltBug := rfl
@[simp] theorem State.pop16_cycles (s : State) : (s.pop16.2).cycles = s.cycles := rfl
@[simp] theorem State.pop16_fault (s : State) : (s.pop16.2).fault = s.fault := rfl
@[simp] theorem State.pop16_mem (s : State) : (s.pop16.2).mem = s.mem := rfl
@[simp] theorem State.pop16_readByte (s : State) (a : Word16) : s.pop16.2.readByte a = s.readByte a := rfl
@[simp] theorem State.pop16_reg (s : State) (r : Reg8) : s.pop16.2.reg r = s.reg r := rfl
@[simp] theorem State.pop16_f (s : State) : s.pop16.2.f = s.f := rfl
@[simp] theorem State.pop16_flags (s : State) : s.pop16.2.flags = s.flags := rfl
@[simp] theorem State.pop16_sp (s : State) : s.pop16.2.sp = s.sp + 2#16 := by
  simp [State.pop16, BitVec.add_assoc]
@[simp] theorem State.pop16_value (s : State) : s.pop16.1 = joinBytes (s.readByte (s.sp + 1#16)) (s.readByte s.sp) := rfl

/-! ## Cycles -/

@[simp] theorem State.addCycles_af (s : State) (n : Nat) : (s.addCycles n).af = s.af := rfl
@[simp] theorem State.addCycles_bc (s : State) (n : Nat) : (s.addCycles n).bc = s.bc := rfl
@[simp] theorem State.addCycles_de (s : State) (n : Nat) : (s.addCycles n).de = s.de := rfl
@[simp] theorem State.addCycles_hl (s : State) (n : Nat) : (s.addCycles n).hl = s.hl := rfl
@[simp] theorem State.addCycles_sp (s : State) (n : Nat) : (s.addCycles n).sp = s.sp := rfl
@[simp] theorem State.addCycles_pc (s : State) (n : Nat) : (s.addCycles n).pc = s.pc := rfl
@[simp] theorem State.addCycles_ime (s : State) (n : Nat) : (s.addCycles n).ime = s.ime := rfl
@[simp] theorem State.addCycles_eiPending (s : State) (n : Nat) : (s.addCycles n).eiPending = s.eiPending := rfl
@[simp] theorem State.addCycles_mode (s : State) (n : Nat) : (s.addCycles n).mode = s.mode := rfl
@[simp] theorem State.addCycles_haltBug (s : State) (n : Nat) : (s.addCycles n).haltBug = s.haltBug := rfl
@[simp] theorem State.addCycles_fault (s : State) (n : Nat) : (s.addCycles n).fault = s.fault := rfl
@[simp] theorem State.addCycles_mem (s : State) (n : Nat) : (s.addCycles n).mem = s.mem := rfl
@[simp] theorem State.addCycles_cycles (s : State) (n : Nat) : (s.addCycles n).cycles = s.cycles + n := rfl
@[simp] theorem State.addCycles_readByte (s : State) (n : Nat) (a : Word16) : (s.addCycles n).readByte a = s.readByte a := rfl
@[simp] theorem State.addCycles_reg (s : State) (n : Nat) (r : Reg8) : (s.addCycles n).reg r = s.reg r := rfl
@[simp] theorem State.addCycles_f (s : State) (n : Nat) : (s.addCycles n).f = s.f := rfl
@[simp] theorem State.addCycles_flags (s : State) (n : Nat) : (s.addCycles n).flags = s.flags := rfl
@[simp] theorem State.addCycles_pair (s : State) (n : Nat) (p : Pair) : (s.addCycles n).pair p = s.pair p := rfl
@[simp] theorem State.addCycles_stackPair (s : State) (n : Nat) (q : StackPair) : (s.addCycles n).stackPair q = s.stackPair q := rfl
@[simp] theorem State.addCycles_pending (s : State) (n : Nat) : (s.addCycles n).pending = s.pending := rfl

end Sys2Proof.Machine
end

