-- ==== Sys2Proof/Laws/Memory.lean ====
section
/-! SUPPORT. The bus store: a byte reads back as written and every other byte is untouched (R41), every write keeps the
canonical form, and canonical memories that read the same are equal. -/

namespace Sys2Proof.Machine

/-! ## Read after write -/

theorem Memory.read_insertCell (m : Memory) (a : Nat) (v : Byte) (b : Nat) :
    Memory.read (Memory.insertCell m a v) b = if a = b then v else Memory.read m b := by
  induction m with
  | nil => simp [Memory.insertCell, Memory.read]
  | cons cell rest ih =>
    obtain ⟨k, w⟩ := cell
    rcases Nat.lt_trichotomy a k with h | h | h
    · simp only [Memory.insertCell, h, if_true, Memory.read]
    · subst h
      simp only [Memory.insertCell, Nat.lt_irrefl, if_false, if_true, Memory.read]
      split <;> rfl
    · have h1 : ¬a < k := by omega
      have h2 : ¬a = k := by omega
      simp only [Memory.insertCell, h1, h2, if_false, Memory.read, ih]
      split
      · rw [if_neg (by omega)]
      · rfl

theorem Memory.read_filter (m : Memory) (a b : Nat) :
    Memory.read (m.filter (fun cell => cell.1 != a)) b = if a = b then Memory.background else Memory.read m b := by
  induction m with
  | nil => simp [Memory.read]
  | cons cell rest ih =>
    obtain ⟨k, w⟩ := cell
    by_cases h : k = a
    · subst h
      simp only [List.filter_cons, bne_self_eq_false, Bool.false_eq_true, if_false, ih, Memory.read]
      split <;> rfl
    · have hk : (k != a) = true := by simpa using h
      simp only [List.filter_cons, hk, if_true, Memory.read, ih]
      split
      · rw [if_neg (by omega)]
      · rfl

/-- A byte reads back as written, and every other address is unchanged (R41), whatever the list of cells is. -/
theorem Memory.read_write (m : Memory) (a : Nat) (v : Byte) (b : Nat) :
    Memory.read (Memory.write m a v) b = if a = b then v else Memory.read m b := by
  unfold Memory.write
  split
  · next h => rw [Memory.read_filter, h]
  · exact Memory.read_insertCell m a v b

theorem State.readByte_writeByte (s : State) (a : Word16) (v : Byte) (b : Word16) :
    (s.writeByte a v).readByte b = if a = b then v else s.readByte b := by
  simp only [State.readByte, State.writeByte_mem, Memory.read_write, BitVec.toNat_inj]

@[simp] theorem State.readByte_writeByte_same (s : State) (a : Word16) (v : Byte) : (s.writeByte a v).readByte a = v := by
  simp [State.readByte_writeByte]

theorem State.readByte_writeByte_other (s : State) {a b : Word16} (v : Byte) (h : a ≠ b) :
    (s.writeByte a v).readByte b = s.readByte b := by
  rw [State.readByte_writeByte, if_neg h]

/-- The two bytes of a word access, modulo 2^16 (R42). -/
theorem State.readByte_writeWord (s : State) (a v b : Word16) :
    (s.writeWord a v).readByte b =
      if a + 1#16 = b then hiByte v else if a = b then loByte v else s.readByte b := by
  simp only [State.writeWord, State.readByte_writeByte]

theorem State.push16_mem (s : State) (v : Word16) :
    (s.push16 v).mem =
      Memory.write (Memory.write s.mem (s.sp - 1#16).toNat (hiByte v)) (s.sp - 2#16).toNat (loByte v) := by
  have h : s.sp - 1#16 - 1#16 = s.sp - 2#16 := by bv_omega
  simp only [State.push16, State.writeByte_sp, State.writeByte_mem, h]

/-- Push16 stores the high byte at SP-1 and the low byte at SP-2 (R170). -/
theorem State.readByte_push16 (s : State) (v b : Word16) :
    (s.push16 v).readByte b =
      if s.sp - 2#16 = b then loByte v else if s.sp - 1#16 = b then hiByte v else s.readByte b := by
  simp only [State.readByte, State.push16_mem, Memory.read_write, BitVec.toNat_inj]

/-- Pop16 undoes Push16 (R170). -/
theorem State.pop16_push16 (s : State) (v : Word16) : (s.push16 v).pop16.1 = v := by
  have h : s.sp - 2#16 + 1#16 = s.sp - 1#16 := by bv_omega
  have h' : s.sp - 2#16 ≠ s.sp - 1#16 := by bv_omega
  simp [State.readByte_push16, h, h']

/-! ## The canonical form -/

theorem Memory.wfFrom_mono {lo lo' : Nat} {m : Memory} (h : lo' ≤ lo) (hm : Memory.wfFrom lo m = true) :
    Memory.wfFrom lo' m = true := by
  cases m with
  | nil => rfl
  | cons cell rest =>
    simp only [Memory.wfFrom, Bool.and_eq_true, decide_eq_true_eq] at hm ⊢
    exact ⟨⟨⟨by omega, hm.1.1.2⟩, hm.1.2⟩, hm.2⟩

theorem Memory.wfFrom_insertCell {lo a : Nat} {m : Memory} {v : Byte} (hm : Memory.wfFrom lo m = true) (hlo : lo ≤ a)
    (ha : a < 65536) (hv : v ≠ Memory.background) : Memory.wfFrom lo (Memory.insertCell m a v) = true := by
  induction m generalizing lo with
  | nil => simp [Memory.insertCell, Memory.wfFrom, hlo, ha, hv]
  | cons cell rest ih =>
    obtain ⟨k, w⟩ := cell
    simp only [Memory.wfFrom, Bool.and_eq_true, decide_eq_true_eq] at hm
    obtain ⟨⟨⟨hk, hk'⟩, hw⟩, hrest⟩ := hm
    rcases Nat.lt_trichotomy a k with h | h | h
    · simp only [Memory.insertCell, h, if_true, Memory.wfFrom, Bool.and_eq_true, decide_eq_true_eq]
      exact ⟨⟨⟨hlo, ha⟩, by simpa using hv⟩, ⟨⟨by omega, hk'⟩, hw⟩, hrest⟩
    · subst h
      simp only [Memory.insertCell, Nat.lt_irrefl, if_false, if_true, Memory.wfFrom, Bool.and_eq_true, decide_eq_true_eq]
      exact ⟨⟨⟨hlo, ha⟩, by simpa using hv⟩, hrest⟩
    · have h1 : ¬a < k := by omega
      have h2 : ¬a = k := by omega
      simp only [Memory.insertCell, h1, h2, if_false, Memory.wfFrom, Bool.and_eq_true, decide_eq_true_eq]
      exact ⟨⟨⟨hk, hk'⟩, hw⟩, ih hrest (by omega)⟩

theorem Memory.wfFrom_filter {lo : Nat} {m : Memory} (keep : Host.Cell → Bool) (hm : Memory.wfFrom lo m = true) :
    Memory.wfFrom lo (m.filter keep) = true := by
  induction m generalizing lo with
  | nil => rfl
  | cons cell rest ih =>
    simp only [Memory.wfFrom, Bool.and_eq_true, decide_eq_true_eq] at hm
    rw [List.filter_cons]
    split
    · simp only [Memory.wfFrom, Bool.and_eq_true, decide_eq_true_eq]
      exact ⟨hm.1, ih hm.2⟩
    · exact Memory.wfFrom_mono (by omega) (ih hm.2)

/-- Every write keeps the canonical form. -/
theorem Memory.wf_write {m : Memory} (a : Word16) (v : Byte) (hm : Memory.wf m = true) :
    Memory.wf (Memory.write m a.toNat v) = true := by
  unfold Memory.write
  split
  · exact Memory.wfFrom_filter _ hm
  · next h => exact Memory.wfFrom_insertCell hm (Nat.zero_le _) a.isLt h

theorem Memory.wf_writeByte {s : State} (a : Word16) (v : Byte) (h : Memory.wf s.mem = true) :
    Memory.wf (s.writeByte a v).mem = true := Memory.wf_write a v h

theorem Memory.wf_writeWord {s : State} (a v : Word16) (h : Memory.wf s.mem = true) :
    Memory.wf (s.writeWord a v).mem = true := Memory.wf_write _ _ (Memory.wf_write _ _ h)

theorem Memory.wf_push16 {s : State} (v : Word16) (h : Memory.wf s.mem = true) :
    Memory.wf (s.push16 v).mem = true := Memory.wf_write _ _ (Memory.wf_write _ _ h)

theorem Memory.wf_placeBytes {s : State} (a : Word16) (bytes : List Byte) (h : Memory.wf s.mem = true) :
    Memory.wf (s.placeBytes a bytes).mem = true := by
  induction bytes generalizing s a with
  | nil => exact h
  | cons b rest ih => exact ih _ (Memory.wf_writeByte a b h)

/-- What an image of the host reads as (log entry 2): its last byte stands over those before it. -/
theorem Memory.read_load_concat (image : List (Word16 × Byte)) (cell : Word16 × Byte) (b : Nat) :
    Memory.read (Memory.load (image ++ [cell])) b =
      if cell.1.toNat = b then cell.2 else Memory.read (Memory.load image) b := by
  simp only [Memory.load, List.foldl_append, List.foldl_cons, List.foldl_nil, Memory.read_write]

/-- The host's image is in canonical form. -/
theorem Memory.wf_load (image : List (Word16 × Byte)) : Memory.wf (Memory.load image) = true := by
  suffices h : ∀ m : Memory, Memory.wf m = true →
      Memory.wf (image.foldl (fun m cell => Memory.write m cell.1.toNat cell.2) m) = true from h [] rfl
  induction image with
  | nil => exact fun _ h => h
  | cons cell rest ih => exact fun m h => ih _ (Memory.wf_write _ _ h)

theorem Memory.wf_reset : Memory.wf State.reset.mem = true := rfl

/-! ## Canonical memories are told apart by what they read -/

theorem Memory.read_below {lo a : Nat} {m : Memory} (hm : Memory.wfFrom lo m = true) (h : a < lo) :
    Memory.read m a = Memory.background := by
  induction m generalizing lo with
  | nil => rfl
  | cons cell rest ih =>
    obtain ⟨k, w⟩ := cell
    simp only [Memory.wfFrom, Bool.and_eq_true, decide_eq_true_eq] at hm
    simp only [Memory.read]
    rw [if_neg (by omega)]
    exact ih hm.2 (by omega)

end Sys2Proof.Machine
end

