-- ==== Sys2Proof/Laws/Frames.lean ====
section
/-! SUPPORT. What each operation leaves unchanged, and how frames compose. -/

namespace Sys2Proof.Machine

/-! ## Frames compose -/

theorem Part.same.trans {p : Part} {s t u : State} (h : p.same s t) (h' : p.same t u) : p.same s u := by
  cases p <;> exact Eq.trans h' h

theorem Part.same.refl (p : Part) (s : State) : p.same s s := by cases p <;> rfl

theorem KeepsAllBut.refl (ps : List Part) (s : State) : KeepsAllBut ps s s := fun p _ => Part.same.refl p s

theorem KeepsAllBut.mono {ps qs : List Part} {s t : State} (h : KeepsAllBut ps s t) (sub : ∀ p ∈ ps, p ∈ qs) :
    KeepsAllBut qs s t := fun p hp => h p (fun hin => hp (sub p hin))

theorem KeepsAllBut.trans {ps qs : List Part} {s t u : State} (h : KeepsAllBut ps s t) (h' : KeepsAllBut qs t u) :
    KeepsAllBut (ps ++ qs) s u := fun p hp =>
  (h p (fun hin => hp (List.mem_append_left _ hin))).trans (h' p (fun hin => hp (List.mem_append_right _ hin)))

theorem KeepsMemory.refl (s : State) : KeepsMemory s s := fun _ => rfl

theorem KeepsMemory.trans {s t u : State} (h : KeepsMemory s t) (h' : KeepsMemory t u) : KeepsMemory s u :=
  fun a => (h' a).trans (h a)

theorem KeepsMemoryBut.of_keepsMemory {s t : State} (as : List Word16) (h : KeepsMemory s t) : KeepsMemoryBut as s t :=
  fun a _ => h a

/-! ## The frame of each operation -/

theorem keepsAllBut_fetched (n : Nat) (s : State) : KeepsAllBut [.pc, .haltBug] s (s.fetched n) := by
  intro p hp; cases p <;> simp_all [Part.same]

theorem keepsAllBut_fetch8 (s : State) : KeepsAllBut [.pc, .haltBug] s s.fetch8.2 := keepsAllBut_fetched 1 s

theorem keepsAllBut_addCycles (s : State) (n : Nat) : KeepsAllBut [.cycles] s (s.addCycles n) := by
  intro p hp; cases p <;> simp_all [Part.same]

theorem keepsAllBut_setReg (s : State) (r : Reg8) (v : Byte) : KeepsAllBut [regPart r] s (s.setReg r v) := by
  intro p hp
  cases p <;> try (simp [Part.same]; done)
  all_goals
    refine State.setReg_reg_other s v ?_
    rintro rfl
    exact hp List.mem_cons_self

theorem keepsAllBut_setFlags (s : State) (x : Flags) : KeepsAllBut flagParts s (s.setFlags x) := by
  intro p hp; cases p <;> first | exact absurd (by decide) hp | simp [Part.same]

theorem keepsAllBut_setPair (s : State) (p : Pair) (v : Word16) : KeepsAllBut (pairParts p) s (s.setPair p v) := by
  intro q hq; cases p <;> cases q <;> first | exact absurd (by decide) hq | rfl

theorem keepsAllBut_setStackPair (s : State) (q : StackPair) (v : Word16) :
    KeepsAllBut (stackPairParts q) s (s.setStackPair q v) := by
  intro p hp; cases q <;> cases p <;> first | exact absurd (by decide) hp | rfl

theorem keepsAllBut_writeByte (s : State) (a : Word16) (v : Byte) : KeepsAllBut [] s (s.writeByte a v) := by
  intro p _; cases p <;> rfl

theorem keepsAllBut_writeWord (s : State) (a v : Word16) : KeepsAllBut [] s (s.writeWord a v) := by
  intro p _; cases p <;> rfl

theorem keepsAllBut_push16 (s : State) (v : Word16) : KeepsAllBut [.sp] s (s.push16 v) := by
  intro p hp; cases p <;> first | exact absurd (by decide) hp | rfl

theorem keepsAllBut_pop16 (s : State) : KeepsAllBut [.sp] s s.pop16.2 := by
  intro p hp; cases p <;> first | exact absurd (by decide) hp | rfl

theorem keepsAllBut_setOperand (s : State) (o : Operand8) (v : Byte) :
    KeepsAllBut (operandParts o) s (s.setOperand o v) := by
  cases o with
  | reg r => exact keepsAllBut_setReg s r v
  | atHl => exact keepsAllBut_writeByte s s.hl v

theorem keepsAllBut_pc (s : State) (v : Word16) : KeepsAllBut [.pc] s { s with pc := v } := by
  intro p hp; cases p <;> first | exact absurd (by decide) hp | rfl

theorem keepsAllBut_sp (s : State) (v : Word16) : KeepsAllBut [.sp] s { s with sp := v } := by
  intro p hp; cases p <;> first | exact absurd (by decide) hp | rfl

theorem keepsAllBut_hl (s : State) (v : Word16) : KeepsAllBut [.regH, .regL] s { s with hl := v } := by
  intro p hp; cases p <;> first | exact absurd (by decide) hp | rfl

theorem keepsAllBut_mode (s : State) (m : Mode) : KeepsAllBut [.mode] s { s with mode := m } := by
  intro p hp; cases p <;> first | exact absurd (by decide) hp | rfl

theorem keepsAllBut_haltBug (s : State) (b : Bool) : KeepsAllBut [.haltBug] s { s with haltBug := b } := by
  intro p hp; cases p <;> first | exact absurd (by decide) hp | rfl

theorem keepsAllBut_interrupts (s : State) (i e : Bool) :
    KeepsAllBut [.ime, .eiPending] s { s with ime := i, eiPending := e } := by
  intro p hp; cases p <;> first | exact absurd (by decide) hp | rfl

/-- The bytes a write of an operand leaves: all but the byte at HL, and all of them for a register. -/
theorem keepsMemoryBut_setOperand (s : State) (o : Operand8) (v : Byte) :
    KeepsMemoryBut (operandAddrs o s) s (s.setOperand o v) := by
  cases o with
  | reg r => exact fun a _ => State.setReg_readByte s r v a
  | atHl => exact fun a ha => State.readByte_writeByte_other s v (fun h => ha (by simp [operandAddrs, h]))

/-- The value an operand has after it is written, whatever flags are written after it. -/
theorem operand_setOperand (s : State) (o : Operand8) (v : Byte) : (s.setOperand o v).operand o = v := by
  cases o with
  | reg r => exact State.setReg_reg_same s r v
  | atHl => exact State.readByte_writeByte_same s s.hl v

end Sys2Proof.Machine
end

