-- ==== Sys2Proof/Laws/PerInstr.lean ====
section
/-! SUPPORT. Facts about every instruction as syntax, one lemma per constructor of Instr. -/

namespace Sys2Proof.Laws

/-- An instruction's bytes are one, two or three, as many as its first byte tells (R60, R77), and the decoder reads the
instruction back from them, whatever bytes follow. -/
def DecodesFromWindow.Statement (i : Instr) : Prop :=
  i.WellFormed → ∀ x y : Byte,
    match i.encode with
    | [b0] => decodeWindow b0 x y = i ∧ lengthOfFirstByte b0 = 1
    | [b0, b1] => decodeWindow b0 b1 x = i ∧ lengthOfFirstByte b0 = 2
    | [b0, b1, b2] => decodeWindow b0 b1 b2 = i ∧ lengthOfFirstByte b0 = 3
    | _ => False

theorem DecodesFromWindow.ldBcN16 (n16 : Word16) : DecodesFromWindow.Statement (.ldBcN16 n16) :=
  fun _ _ _ => ⟨congrArg Instr.ldBcN16 (joinBytes_hi_lo n16), rfl⟩
theorem DecodesFromWindow.ldBN8 (n8 : Byte) : DecodesFromWindow.Statement (.ldBN8 n8) :=
  fun _ x _ => ⟨(rfl : decodeWindow 0x06#8 n8 x = .ldBN8 n8), rfl⟩
theorem DecodesFromWindow.ldAtA16Sp (a16 : Word16) : DecodesFromWindow.Statement (.ldAtA16Sp a16) :=
  fun _ _ _ => ⟨congrArg Instr.ldAtA16Sp (joinBytes_hi_lo a16), rfl⟩
theorem DecodesFromWindow.ldCN8 (n8 : Byte) : DecodesFromWindow.Statement (.ldCN8 n8) :=
  fun _ x _ => ⟨(rfl : decodeWindow 0x0E#8 n8 x = .ldCN8 n8), rfl⟩
theorem DecodesFromWindow.stop (n8 : Byte) : DecodesFromWindow.Statement (.stop n8) :=
  fun _ x _ => ⟨(rfl : decodeWindow 0x10#8 n8 x = .stop n8), rfl⟩
theorem DecodesFromWindow.ldDeN16 (n16 : Word16) : DecodesFromWindow.Statement (.ldDeN16 n16) :=
  fun _ _ _ => ⟨congrArg Instr.ldDeN16 (joinBytes_hi_lo n16), rfl⟩
theorem DecodesFromWindow.ldDN8 (n8 : Byte) : DecodesFromWindow.Statement (.ldDN8 n8) :=
  fun _ x _ => ⟨(rfl : decodeWindow 0x16#8 n8 x = .ldDN8 n8), rfl⟩
theorem DecodesFromWindow.jrE8 (e8 : Byte) : DecodesFromWindow.Statement (.jrE8 e8) :=
  fun _ x _ => ⟨(rfl : decodeWindow 0x18#8 e8 x = .jrE8 e8), rfl⟩
theorem DecodesFromWindow.ldEN8 (n8 : Byte) : DecodesFromWindow.Statement (.ldEN8 n8) :=
  fun _ x _ => ⟨(rfl : decodeWindow 0x1E#8 n8 x = .ldEN8 n8), rfl⟩
theorem DecodesFromWindow.jrNzE8 (e8 : Byte) : DecodesFromWindow.Statement (.jrNzE8 e8) :=
  fun _ x _ => ⟨(rfl : decodeWindow 0x20#8 e8 x = .jrNzE8 e8), rfl⟩
theorem DecodesFromWindow.ldHlN16 (n16 : Word16) : DecodesFromWindow.Statement (.ldHlN16 n16) :=
  fun _ _ _ => ⟨congrArg Instr.ldHlN16 (joinBytes_hi_lo n16), rfl⟩
theorem DecodesFromWindow.ldHN8 (n8 : Byte) : DecodesFromWindow.Statement (.ldHN8 n8) :=
  fun _ x _ => ⟨(rfl : decodeWindow 0x26#8 n8 x = .ldHN8 n8), rfl⟩
theorem DecodesFromWindow.jrZE8 (e8 : Byte) : DecodesFromWindow.Statement (.jrZE8 e8) :=
  fun _ x _ => ⟨(rfl : decodeWindow 0x28#8 e8 x = .jrZE8 e8), rfl⟩
theorem DecodesFromWindow.ldLN8 (n8 : Byte) : DecodesFromWindow.Statement (.ldLN8 n8) :=
  fun _ x _ => ⟨(rfl : decodeWindow 0x2E#8 n8 x = .ldLN8 n8), rfl⟩
theorem DecodesFromWindow.jrNcE8 (e8 : Byte) : DecodesFromWindow.Statement (.jrNcE8 e8) :=
  fun _ x _ => ⟨(rfl : decodeWindow 0x30#8 e8 x = .jrNcE8 e8), rfl⟩
theorem DecodesFromWindow.ldSpN16 (n16 : Word16) : DecodesFromWindow.Statement (.ldSpN16 n16) :=
  fun _ _ _ => ⟨congrArg Instr.ldSpN16 (joinBytes_hi_lo n16), rfl⟩
theorem DecodesFromWindow.ldAtHlN8 (n8 : Byte) : DecodesFromWindow.Statement (.ldAtHlN8 n8) :=
  fun _ x _ => ⟨(rfl : decodeWindow 0x36#8 n8 x = .ldAtHlN8 n8), rfl⟩
theorem DecodesFromWindow.jrCE8 (e8 : Byte) : DecodesFromWindow.Statement (.jrCE8 e8) :=
  fun _ x _ => ⟨(rfl : decodeWindow 0x38#8 e8 x = .jrCE8 e8), rfl⟩
theorem DecodesFromWindow.ldAN8 (n8 : Byte) : DecodesFromWindow.Statement (.ldAN8 n8) :=
  fun _ x _ => ⟨(rfl : decodeWindow 0x3E#8 n8 x = .ldAN8 n8), rfl⟩
theorem DecodesFromWindow.jpNzA16 (a16 : Word16) : DecodesFromWindow.Statement (.jpNzA16 a16) :=
  fun _ _ _ => ⟨congrArg Instr.jpNzA16 (joinBytes_hi_lo a16), rfl⟩
theorem DecodesFromWindow.jpA16 (a16 : Word16) : DecodesFromWindow.Statement (.jpA16 a16) :=
  fun _ _ _ => ⟨congrArg Instr.jpA16 (joinBytes_hi_lo a16), rfl⟩
theorem DecodesFromWindow.callNzA16 (a16 : Word16) : DecodesFromWindow.Statement (.callNzA16 a16) :=
  fun _ _ _ => ⟨congrArg Instr.callNzA16 (joinBytes_hi_lo a16), rfl⟩
theorem DecodesFromWindow.addAN8 (n8 : Byte) : DecodesFromWindow.Statement (.addAN8 n8) :=
  fun _ x _ => ⟨(rfl : decodeWindow 0xC6#8 n8 x = .addAN8 n8), rfl⟩
theorem DecodesFromWindow.jpZA16 (a16 : Word16) : DecodesFromWindow.Statement (.jpZA16 a16) :=
  fun _ _ _ => ⟨congrArg Instr.jpZA16 (joinBytes_hi_lo a16), rfl⟩
theorem DecodesFromWindow.callZA16 (a16 : Word16) : DecodesFromWindow.Statement (.callZA16 a16) :=
  fun _ _ _ => ⟨congrArg Instr.callZA16 (joinBytes_hi_lo a16), rfl⟩
theorem DecodesFromWindow.callA16 (a16 : Word16) : DecodesFromWindow.Statement (.callA16 a16) :=
  fun _ _ _ => ⟨congrArg Instr.callA16 (joinBytes_hi_lo a16), rfl⟩
theorem DecodesFromWindow.adcAN8 (n8 : Byte) : DecodesFromWindow.Statement (.adcAN8 n8) :=
  fun _ x _ => ⟨(rfl : decodeWindow 0xCE#8 n8 x = .adcAN8 n8), rfl⟩
theorem DecodesFromWindow.jpNcA16 (a16 : Word16) : DecodesFromWindow.Statement (.jpNcA16 a16) :=
  fun _ _ _ => ⟨congrArg Instr.jpNcA16 (joinBytes_hi_lo a16), rfl⟩
theorem DecodesFromWindow.callNcA16 (a16 : Word16) : DecodesFromWindow.Statement (.callNcA16 a16) :=
  fun _ _ _ => ⟨congrArg Instr.callNcA16 (joinBytes_hi_lo a16), rfl⟩
theorem DecodesFromWindow.subN8 (n8 : Byte) : DecodesFromWindow.Statement (.subN8 n8) :=
  fun _ x _ => ⟨(rfl : decodeWindow 0xD6#8 n8 x = .subN8 n8), rfl⟩
theorem DecodesFromWindow.jpCA16 (a16 : Word16) : DecodesFromWindow.Statement (.jpCA16 a16) :=
  fun _ _ _ => ⟨congrArg Instr.jpCA16 (joinBytes_hi_lo a16), rfl⟩
theorem DecodesFromWindow.callCA16 (a16 : Word16) : DecodesFromWindow.Statement (.callCA16 a16) :=
  fun _ _ _ => ⟨congrArg Instr.callCA16 (joinBytes_hi_lo a16), rfl⟩
theorem DecodesFromWindow.sbcAN8 (n8 : Byte) : DecodesFromWindow.Statement (.sbcAN8 n8) :=
  fun _ x _ => ⟨(rfl : decodeWindow 0xDE#8 n8 x = .sbcAN8 n8), rfl⟩
theorem DecodesFromWindow.ldhAtA8A (a8 : Byte) : DecodesFromWindow.Statement (.ldhAtA8A a8) :=
  fun _ x _ => ⟨(rfl : decodeWindow 0xE0#8 a8 x = .ldhAtA8A a8), rfl⟩
theorem DecodesFromWindow.andN8 (n8 : Byte) : DecodesFromWindow.Statement (.andN8 n8) :=
  fun _ x _ => ⟨(rfl : decodeWindow 0xE6#8 n8 x = .andN8 n8), rfl⟩
theorem DecodesFromWindow.addSpE8 (e8 : Byte) : DecodesFromWindow.Statement (.addSpE8 e8) :=
  fun _ x _ => ⟨(rfl : decodeWindow 0xE8#8 e8 x = .addSpE8 e8), rfl⟩
theorem DecodesFromWindow.ldAtA16A (a16 : Word16) : DecodesFromWindow.Statement (.ldAtA16A a16) :=
  fun _ _ _ => ⟨congrArg Instr.ldAtA16A (joinBytes_hi_lo a16), rfl⟩
theorem DecodesFromWindow.xorN8 (n8 : Byte) : DecodesFromWindow.Statement (.xorN8 n8) :=
  fun _ x _ => ⟨(rfl : decodeWindow 0xEE#8 n8 x = .xorN8 n8), rfl⟩
theorem DecodesFromWindow.ldhAAtA8 (a8 : Byte) : DecodesFromWindow.Statement (.ldhAAtA8 a8) :=
  fun _ x _ => ⟨(rfl : decodeWindow 0xF0#8 a8 x = .ldhAAtA8 a8), rfl⟩
theorem DecodesFromWindow.orN8 (n8 : Byte) : DecodesFromWindow.Statement (.orN8 n8) :=
  fun _ x _ => ⟨(rfl : decodeWindow 0xF6#8 n8 x = .orN8 n8), rfl⟩
theorem DecodesFromWindow.ldHlSpE8 (e8 : Byte) : DecodesFromWindow.Statement (.ldHlSpE8 e8) :=
  fun _ x _ => ⟨(rfl : decodeWindow 0xF8#8 e8 x = .ldHlSpE8 e8), rfl⟩
theorem DecodesFromWindow.ldAAtA16 (a16 : Word16) : DecodesFromWindow.Statement (.ldAAtA16 a16) :=
  fun _ _ _ => ⟨congrArg Instr.ldAAtA16 (joinBytes_hi_lo a16), rfl⟩
theorem DecodesFromWindow.cpN8 (n8 : Byte) : DecodesFromWindow.Statement (.cpN8 n8) :=
  fun _ x _ => ⟨(rfl : decodeWindow 0xFE#8 n8 x = .cpN8 n8), rfl⟩
theorem DecodesFromWindow.nop : DecodesFromWindow.Statement .nop :=
  fun _ x y => ⟨(rfl : decodeWindow 0x00#8 x y = .nop), rfl⟩
theorem DecodesFromWindow.ldAtBcA : DecodesFromWindow.Statement .ldAtBcA :=
  fun _ x y => ⟨(rfl : decodeWindow 0x02#8 x y = .ldAtBcA), rfl⟩
theorem DecodesFromWindow.incBc : DecodesFromWindow.Statement .incBc :=
  fun _ x y => ⟨(rfl : decodeWindow 0x03#8 x y = .incBc), rfl⟩
theorem DecodesFromWindow.incB : DecodesFromWindow.Statement .incB :=
  fun _ x y => ⟨(rfl : decodeWindow 0x04#8 x y = .incB), rfl⟩
theorem DecodesFromWindow.decB : DecodesFromWindow.Statement .decB :=
  fun _ x y => ⟨(rfl : decodeWindow 0x05#8 x y = .decB), rfl⟩
theorem DecodesFromWindow.rlca : DecodesFromWindow.Statement .rlca :=
  fun _ x y => ⟨(rfl : decodeWindow 0x07#8 x y = .rlca), rfl⟩
theorem DecodesFromWindow.addHlBc : DecodesFromWindow.Statement .addHlBc :=
  fun _ x y => ⟨(rfl : decodeWindow 0x09#8 x y = .addHlBc), rfl⟩
theorem DecodesFromWindow.ldAAtBc : DecodesFromWindow.Statement .ldAAtBc :=
  fun _ x y => ⟨(rfl : decodeWindow 0x0A#8 x y = .ldAAtBc), rfl⟩
theorem DecodesFromWindow.decBc : DecodesFromWindow.Statement .decBc :=
  fun _ x y => ⟨(rfl : decodeWindow 0x0B#8 x y = .decBc), rfl⟩
theorem DecodesFromWindow.incC : DecodesFromWindow.Statement .incC :=
  fun _ x y => ⟨(rfl : decodeWindow 0x0C#8 x y = .incC), rfl⟩
theorem DecodesFromWindow.decC : DecodesFromWindow.Statement .decC :=
  fun _ x y => ⟨(rfl : decodeWindow 0x0D#8 x y = .decC), rfl⟩
theorem DecodesFromWindow.rrca : DecodesFromWindow.Statement .rrca :=
  fun _ x y => ⟨(rfl : decodeWindow 0x0F#8 x y = .rrca), rfl⟩
theorem DecodesFromWindow.ldAtDeA : DecodesFromWindow.Statement .ldAtDeA :=
  fun _ x y => ⟨(rfl : decodeWindow 0x12#8 x y = .ldAtDeA), rfl⟩
theorem DecodesFromWindow.incDe : DecodesFromWindow.Statement .incDe :=
  fun _ x y => ⟨(rfl : decodeWindow 0x13#8 x y = .incDe), rfl⟩
theorem DecodesFromWindow.incD : DecodesFromWindow.Statement .incD :=
  fun _ x y => ⟨(rfl : decodeWindow 0x14#8 x y = .incD), rfl⟩
theorem DecodesFromWindow.decD : DecodesFromWindow.Statement .decD :=
  fun _ x y => ⟨(rfl : decodeWindow 0x15#8 x y = .decD), rfl⟩
theorem DecodesFromWindow.rla : DecodesFromWindow.Statement .rla :=
  fun _ x y => ⟨(rfl : decodeWindow 0x17#8 x y = .rla), rfl⟩
theorem DecodesFromWindow.addHlDe : DecodesFromWindow.Statement .addHlDe :=
  fun _ x y => ⟨(rfl : decodeWindow 0x19#8 x y = .addHlDe), rfl⟩
theorem DecodesFromWindow.ldAAtDe : DecodesFromWindow.Statement .ldAAtDe :=
  fun _ x y => ⟨(rfl : decodeWindow 0x1A#8 x y = .ldAAtDe), rfl⟩
theorem DecodesFromWindow.decDe : DecodesFromWindow.Statement .decDe :=
  fun _ x y => ⟨(rfl : decodeWindow 0x1B#8 x y = .decDe), rfl⟩
theorem DecodesFromWindow.incE : DecodesFromWindow.Statement .incE :=
  fun _ x y => ⟨(rfl : decodeWindow 0x1C#8 x y = .incE), rfl⟩
theorem DecodesFromWindow.decE : DecodesFromWindow.Statement .decE :=
  fun _ x y => ⟨(rfl : decodeWindow 0x1D#8 x y = .decE), rfl⟩
theorem DecodesFromWindow.rra : DecodesFromWindow.Statement .rra :=
  fun _ x y => ⟨(rfl : decodeWindow 0x1F#8 x y = .rra), rfl⟩
theorem DecodesFromWindow.ldAtHlIncA : DecodesFromWindow.Statement .ldAtHlIncA :=
  fun _ x y => ⟨(rfl : decodeWindow 0x22#8 x y = .ldAtHlIncA), rfl⟩
theorem DecodesFromWindow.incHl : DecodesFromWindow.Statement .incHl :=
  fun _ x y => ⟨(rfl : decodeWindow 0x23#8 x y = .incHl), rfl⟩
theorem DecodesFromWindow.incH : DecodesFromWindow.Statement .incH :=
  fun _ x y => ⟨(rfl : decodeWindow 0x24#8 x y = .incH), rfl⟩
theorem DecodesFromWindow.decH : DecodesFromWindow.Statement .decH :=
  fun _ x y => ⟨(rfl : decodeWindow 0x25#8 x y = .decH), rfl⟩
theorem DecodesFromWindow.daa : DecodesFromWindow.Statement .daa :=
  fun _ x y => ⟨(rfl : decodeWindow 0x27#8 x y = .daa), rfl⟩
theorem DecodesFromWindow.addHlHl : DecodesFromWindow.Statement .addHlHl :=
  fun _ x y => ⟨(rfl : decodeWindow 0x29#8 x y = .addHlHl), rfl⟩
theorem DecodesFromWindow.ldAAtHlInc : DecodesFromWindow.Statement .ldAAtHlInc :=
  fun _ x y => ⟨(rfl : decodeWindow 0x2A#8 x y = .ldAAtHlInc), rfl⟩
theorem DecodesFromWindow.decHl : DecodesFromWindow.Statement .decHl :=
  fun _ x y => ⟨(rfl : decodeWindow 0x2B#8 x y = .decHl), rfl⟩
theorem DecodesFromWindow.incL : DecodesFromWindow.Statement .incL :=
  fun _ x y => ⟨(rfl : decodeWindow 0x2C#8 x y = .incL), rfl⟩
theorem DecodesFromWindow.decL : DecodesFromWindow.Statement .decL :=
  fun _ x y => ⟨(rfl : decodeWindow 0x2D#8 x y = .decL), rfl⟩
theorem DecodesFromWindow.cpl : DecodesFromWindow.Statement .cpl :=
  fun _ x y => ⟨(rfl : decodeWindow 0x2F#8 x y = .cpl), rfl⟩
theorem DecodesFromWindow.ldAtHlDecA : DecodesFromWindow.Statement .ldAtHlDecA :=
  fun _ x y => ⟨(rfl : decodeWindow 0x32#8 x y = .ldAtHlDecA), rfl⟩
theorem DecodesFromWindow.incSp : DecodesFromWindow.Statement .incSp :=
  fun _ x y => ⟨(rfl : decodeWindow 0x33#8 x y = .incSp), rfl⟩
theorem DecodesFromWindow.incAtHl : DecodesFromWindow.Statement .incAtHl :=
  fun _ x y => ⟨(rfl : decodeWindow 0x34#8 x y = .incAtHl), rfl⟩
theorem DecodesFromWindow.decAtHl : DecodesFromWindow.Statement .decAtHl :=
  fun _ x y => ⟨(rfl : decodeWindow 0x35#8 x y = .decAtHl), rfl⟩
theorem DecodesFromWindow.scf : DecodesFromWindow.Statement .scf :=
  fun _ x y => ⟨(rfl : decodeWindow 0x37#8 x y = .scf), rfl⟩
theorem DecodesFromWindow.addHlSp : DecodesFromWindow.Statement .addHlSp :=
  fun _ x y => ⟨(rfl : decodeWindow 0x39#8 x y = .addHlSp), rfl⟩
theorem DecodesFromWindow.ldAAtHlDec : DecodesFromWindow.Statement .ldAAtHlDec :=
  fun _ x y => ⟨(rfl : decodeWindow 0x3A#8 x y = .ldAAtHlDec), rfl⟩
theorem DecodesFromWindow.decSp : DecodesFromWindow.Statement .decSp :=
  fun _ x y => ⟨(rfl : decodeWindow 0x3B#8 x y = .decSp), rfl⟩
theorem DecodesFromWindow.incA : DecodesFromWindow.Statement .incA :=
  fun _ x y => ⟨(rfl : decodeWindow 0x3C#8 x y = .incA), rfl⟩
theorem DecodesFromWindow.decA : DecodesFromWindow.Statement .decA :=
  fun _ x y => ⟨(rfl : decodeWindow 0x3D#8 x y = .decA), rfl⟩
theorem DecodesFromWindow.ccf : DecodesFromWindow.Statement .ccf :=
  fun _ x y => ⟨(rfl : decodeWindow 0x3F#8 x y = .ccf), rfl⟩
theorem DecodesFromWindow.ldBB : DecodesFromWindow.Statement .ldBB :=
  fun _ x y => ⟨(rfl : decodeWindow 0x40#8 x y = .ldBB), rfl⟩
theorem DecodesFromWindow.ldBC : DecodesFromWindow.Statement .ldBC :=
  fun _ x y => ⟨(rfl : decodeWindow 0x41#8 x y = .ldBC), rfl⟩
theorem DecodesFromWindow.ldBD : DecodesFromWindow.Statement .ldBD :=
  fun _ x y => ⟨(rfl : decodeWindow 0x42#8 x y = .ldBD), rfl⟩
theorem DecodesFromWindow.ldBE : DecodesFromWindow.Statement .ldBE :=
  fun _ x y => ⟨(rfl : decodeWindow 0x43#8 x y = .ldBE), rfl⟩
theorem DecodesFromWindow.ldBH : DecodesFromWindow.Statement .ldBH :=
  fun _ x y => ⟨(rfl : decodeWindow 0x44#8 x y = .ldBH), rfl⟩
theorem DecodesFromWindow.ldBL : DecodesFromWindow.Statement .ldBL :=
  fun _ x y => ⟨(rfl : decodeWindow 0x45#8 x y = .ldBL), rfl⟩
theorem DecodesFromWindow.ldBAtHl : DecodesFromWindow.Statement .ldBAtHl :=
  fun _ x y => ⟨(rfl : decodeWindow 0x46#8 x y = .ldBAtHl), rfl⟩
theorem DecodesFromWindow.ldBA : DecodesFromWindow.Statement .ldBA :=
  fun _ x y => ⟨(rfl : decodeWindow 0x47#8 x y = .ldBA), rfl⟩
theorem DecodesFromWindow.ldCB : DecodesFromWindow.Statement .ldCB :=
  fun _ x y => ⟨(rfl : decodeWindow 0x48#8 x y = .ldCB), rfl⟩
theorem DecodesFromWindow.ldCC : DecodesFromWindow.Statement .ldCC :=
  fun _ x y => ⟨(rfl : decodeWindow 0x49#8 x y = .ldCC), rfl⟩
theorem DecodesFromWindow.ldCD : DecodesFromWindow.Statement .ldCD :=
  fun _ x y => ⟨(rfl : decodeWindow 0x4A#8 x y = .ldCD), rfl⟩
theorem DecodesFromWindow.ldCE : DecodesFromWindow.Statement .ldCE :=
  fun _ x y => ⟨(rfl : decodeWindow 0x4B#8 x y = .ldCE), rfl⟩
theorem DecodesFromWindow.ldCH : DecodesFromWindow.Statement .ldCH :=
  fun _ x y => ⟨(rfl : decodeWindow 0x4C#8 x y = .ldCH), rfl⟩
theorem DecodesFromWindow.ldCL : DecodesFromWindow.Statement .ldCL :=
  fun _ x y => ⟨(rfl : decodeWindow 0x4D#8 x y = .ldCL), rfl⟩
theorem DecodesFromWindow.ldCAtHl : DecodesFromWindow.Statement .ldCAtHl :=
  fun _ x y => ⟨(rfl : decodeWindow 0x4E#8 x y = .ldCAtHl), rfl⟩
theorem DecodesFromWindow.ldCA : DecodesFromWindow.Statement .ldCA :=
  fun _ x y => ⟨(rfl : decodeWindow 0x4F#8 x y = .ldCA), rfl⟩
theorem DecodesFromWindow.ldDB : DecodesFromWindow.Statement .ldDB :=
  fun _ x y => ⟨(rfl : decodeWindow 0x50#8 x y = .ldDB), rfl⟩
theorem DecodesFromWindow.ldDC : DecodesFromWindow.Statement .ldDC :=
  fun _ x y => ⟨(rfl : decodeWindow 0x51#8 x y = .ldDC), rfl⟩
theorem DecodesFromWindow.ldDD : DecodesFromWindow.Statement .ldDD :=
  fun _ x y => ⟨(rfl : decodeWindow 0x52#8 x y = .ldDD), rfl⟩
theorem DecodesFromWindow.ldDE : DecodesFromWindow.Statement .ldDE :=
  fun _ x y => ⟨(rfl : decodeWindow 0x53#8 x y = .ldDE), rfl⟩
theorem DecodesFromWindow.ldDH : DecodesFromWindow.Statement .ldDH :=
  fun _ x y => ⟨(rfl : decodeWindow 0x54#8 x y = .ldDH), rfl⟩
theorem DecodesFromWindow.ldDL : DecodesFromWindow.Statement .ldDL :=
  fun _ x y => ⟨(rfl : decodeWindow 0x55#8 x y = .ldDL), rfl⟩
theorem DecodesFromWindow.ldDAtHl : DecodesFromWindow.Statement .ldDAtHl :=
  fun _ x y => ⟨(rfl : decodeWindow 0x56#8 x y = .ldDAtHl), rfl⟩
theorem DecodesFromWindow.ldDA : DecodesFromWindow.Statement .ldDA :=
  fun _ x y => ⟨(rfl : decodeWindow 0x57#8 x y = .ldDA), rfl⟩
theorem DecodesFromWindow.ldEB : DecodesFromWindow.Statement .ldEB :=
  fun _ x y => ⟨(rfl : decodeWindow 0x58#8 x y = .ldEB), rfl⟩
theorem DecodesFromWindow.ldEC : DecodesFromWindow.Statement .ldEC :=
  fun _ x y => ⟨(rfl : decodeWindow 0x59#8 x y = .ldEC), rfl⟩
theorem DecodesFromWindow.ldED : DecodesFromWindow.Statement .ldED :=
  fun _ x y => ⟨(rfl : decodeWindow 0x5A#8 x y = .ldED), rfl⟩
theorem DecodesFromWindow.ldEE : DecodesFromWindow.Statement .ldEE :=
  fun _ x y => ⟨(rfl : decodeWindow 0x5B#8 x y = .ldEE), rfl⟩
theorem DecodesFromWindow.ldEH : DecodesFromWindow.Statement .ldEH :=
  fun _ x y => ⟨(rfl : decodeWindow 0x5C#8 x y = .ldEH), rfl⟩
theorem DecodesFromWindow.ldEL : DecodesFromWindow.Statement .ldEL :=
  fun _ x y => ⟨(rfl : decodeWindow 0x5D#8 x y = .ldEL), rfl⟩
theorem DecodesFromWindow.ldEAtHl : DecodesFromWindow.Statement .ldEAtHl :=
  fun _ x y => ⟨(rfl : decodeWindow 0x5E#8 x y = .ldEAtHl), rfl⟩
theorem DecodesFromWindow.ldEA : DecodesFromWindow.Statement .ldEA :=
  fun _ x y => ⟨(rfl : decodeWindow 0x5F#8 x y = .ldEA), rfl⟩
theorem DecodesFromWindow.ldHB : DecodesFromWindow.Statement .ldHB :=
  fun _ x y => ⟨(rfl : decodeWindow 0x60#8 x y = .ldHB), rfl⟩
theorem DecodesFromWindow.ldHC : DecodesFromWindow.Statement .ldHC :=
  fun _ x y => ⟨(rfl : decodeWindow 0x61#8 x y = .ldHC), rfl⟩
theorem DecodesFromWindow.ldHD : DecodesFromWindow.Statement .ldHD :=
  fun _ x y => ⟨(rfl : decodeWindow 0x62#8 x y = .ldHD), rfl⟩
theorem DecodesFromWindow.ldHE : DecodesFromWindow.Statement .ldHE :=
  fun _ x y => ⟨(rfl : decodeWindow 0x63#8 x y = .ldHE), rfl⟩
theorem DecodesFromWindow.ldHH : DecodesFromWindow.Statement .ldHH :=
  fun _ x y => ⟨(rfl : decodeWindow 0x64#8 x y = .ldHH), rfl⟩
theorem DecodesFromWindow.ldHL : DecodesFromWindow.Statement .ldHL :=
  fun _ x y => ⟨(rfl : decodeWindow 0x65#8 x y = .ldHL), rfl⟩
theorem DecodesFromWindow.ldHAtHl : DecodesFromWindow.Statement .ldHAtHl :=
  fun _ x y => ⟨(rfl : decodeWindow 0x66#8 x y = .ldHAtHl), rfl⟩
theorem DecodesFromWindow.ldHA : DecodesFromWindow.Statement .ldHA :=
  fun _ x y => ⟨(rfl : decodeWindow 0x67#8 x y = .ldHA), rfl⟩
theorem DecodesFromWindow.ldLB : DecodesFromWindow.Statement .ldLB :=
  fun _ x y => ⟨(rfl : decodeWindow 0x68#8 x y = .ldLB), rfl⟩
theorem DecodesFromWindow.ldLC : DecodesFromWindow.Statement .ldLC :=
  fun _ x y => ⟨(rfl : decodeWindow 0x69#8 x y = .ldLC), rfl⟩
theorem DecodesFromWindow.ldLD : DecodesFromWindow.Statement .ldLD :=
  fun _ x y => ⟨(rfl : decodeWindow 0x6A#8 x y = .ldLD), rfl⟩
theorem DecodesFromWindow.ldLE : DecodesFromWindow.Statement .ldLE :=
  fun _ x y => ⟨(rfl : decodeWindow 0x6B#8 x y = .ldLE), rfl⟩
theorem DecodesFromWindow.ldLH : DecodesFromWindow.Statement .ldLH :=
  fun _ x y => ⟨(rfl : decodeWindow 0x6C#8 x y = .ldLH), rfl⟩
theorem DecodesFromWindow.ldLL : DecodesFromWindow.Statement .ldLL :=
  fun _ x y => ⟨(rfl : decodeWindow 0x6D#8 x y = .ldLL), rfl⟩
theorem DecodesFromWindow.ldLAtHl : DecodesFromWindow.Statement .ldLAtHl :=
  fun _ x y => ⟨(rfl : decodeWindow 0x6E#8 x y = .ldLAtHl), rfl⟩
theorem DecodesFromWindow.ldLA : DecodesFromWindow.Statement .ldLA :=
  fun _ x y => ⟨(rfl : decodeWindow 0x6F#8 x y = .ldLA), rfl⟩
theorem DecodesFromWindow.ldAtHlB : DecodesFromWindow.Statement .ldAtHlB :=
  fun _ x y => ⟨(rfl : decodeWindow 0x70#8 x y = .ldAtHlB), rfl⟩
theorem DecodesFromWindow.ldAtHlC : DecodesFromWindow.Statement .ldAtHlC :=
  fun _ x y => ⟨(rfl : decodeWindow 0x71#8 x y = .ldAtHlC), rfl⟩
theorem DecodesFromWindow.ldAtHlD : DecodesFromWindow.Statement .ldAtHlD :=
  fun _ x y => ⟨(rfl : decodeWindow 0x72#8 x y = .ldAtHlD), rfl⟩
theorem DecodesFromWindow.ldAtHlE : DecodesFromWindow.Statement .ldAtHlE :=
  fun _ x y => ⟨(rfl : decodeWindow 0x73#8 x y = .ldAtHlE), rfl⟩
theorem DecodesFromWindow.ldAtHlH : DecodesFromWindow.Statement .ldAtHlH :=
  fun _ x y => ⟨(rfl : decodeWindow 0x74#8 x y = .ldAtHlH), rfl⟩
theorem DecodesFromWindow.ldAtHlL : DecodesFromWindow.Statement .ldAtHlL :=
  fun _ x y => ⟨(rfl : decodeWindow 0x75#8 x y = .ldAtHlL), rfl⟩
theorem DecodesFromWindow.halt : DecodesFromWindow.Statement .halt :=
  fun _ x y => ⟨(rfl : decodeWindow 0x76#8 x y = .halt), rfl⟩
theorem DecodesFromWindow.ldAtHlA : DecodesFromWindow.Statement .ldAtHlA :=
  fun _ x y => ⟨(rfl : decodeWindow 0x77#8 x y = .ldAtHlA), rfl⟩
theorem DecodesFromWindow.ldAB : DecodesFromWindow.Statement .ldAB :=
  fun _ x y => ⟨(rfl : decodeWindow 0x78#8 x y = .ldAB), rfl⟩
theorem DecodesFromWindow.ldAC : DecodesFromWindow.Statement .ldAC :=
  fun _ x y => ⟨(rfl : decodeWindow 0x79#8 x y = .ldAC), rfl⟩
theorem DecodesFromWindow.ldAD : DecodesFromWindow.Statement .ldAD :=
  fun _ x y => ⟨(rfl : decodeWindow 0x7A#8 x y = .ldAD), rfl⟩
theorem DecodesFromWindow.ldAE : DecodesFromWindow.Statement .ldAE :=
  fun _ x y => ⟨(rfl : decodeWindow 0x7B#8 x y = .ldAE), rfl⟩
theorem DecodesFromWindow.ldAH : DecodesFromWindow.Statement .ldAH :=
  fun _ x y => ⟨(rfl : decodeWindow 0x7C#8 x y = .ldAH), rfl⟩
theorem DecodesFromWindow.ldAL : DecodesFromWindow.Statement .ldAL :=
  fun _ x y => ⟨(rfl : decodeWindow 0x7D#8 x y = .ldAL), rfl⟩
theorem DecodesFromWindow.ldAAtHl : DecodesFromWindow.Statement .ldAAtHl :=
  fun _ x y => ⟨(rfl : decodeWindow 0x7E#8 x y = .ldAAtHl), rfl⟩
theorem DecodesFromWindow.ldAA : DecodesFromWindow.Statement .ldAA :=
  fun _ x y => ⟨(rfl : decodeWindow 0x7F#8 x y = .ldAA), rfl⟩
theorem DecodesFromWindow.addAB : DecodesFromWindow.Statement .addAB :=
  fun _ x y => ⟨(rfl : decodeWindow 0x80#8 x y = .addAB), rfl⟩
theorem DecodesFromWindow.addAC : DecodesFromWindow.Statement .addAC :=
  fun _ x y => ⟨(rfl : decodeWindow 0x81#8 x y = .addAC), rfl⟩
theorem DecodesFromWindow.addAD : DecodesFromWindow.Statement .addAD :=
  fun _ x y => ⟨(rfl : decodeWindow 0x82#8 x y = .addAD), rfl⟩
theorem DecodesFromWindow.addAE : DecodesFromWindow.Statement .addAE :=
  fun _ x y => ⟨(rfl : decodeWindow 0x83#8 x y = .addAE), rfl⟩
theorem DecodesFromWindow.addAH : DecodesFromWindow.Statement .addAH :=
  fun _ x y => ⟨(rfl : decodeWindow 0x84#8 x y = .addAH), rfl⟩
theorem DecodesFromWindow.addAL : DecodesFromWindow.Statement .addAL :=
  fun _ x y => ⟨(rfl : decodeWindow 0x85#8 x y = .addAL), rfl⟩
theorem DecodesFromWindow.addAAtHl : DecodesFromWindow.Statement .addAAtHl :=
  fun _ x y => ⟨(rfl : decodeWindow 0x86#8 x y = .addAAtHl), rfl⟩
theorem DecodesFromWindow.addAA : DecodesFromWindow.Statement .addAA :=
  fun _ x y => ⟨(rfl : decodeWindow 0x87#8 x y = .addAA), rfl⟩
theorem DecodesFromWindow.adcAB : DecodesFromWindow.Statement .adcAB :=
  fun _ x y => ⟨(rfl : decodeWindow 0x88#8 x y = .adcAB), rfl⟩
theorem DecodesFromWindow.adcAC : DecodesFromWindow.Statement .adcAC :=
  fun _ x y => ⟨(rfl : decodeWindow 0x89#8 x y = .adcAC), rfl⟩
theorem DecodesFromWindow.adcAD : DecodesFromWindow.Statement .adcAD :=
  fun _ x y => ⟨(rfl : decodeWindow 0x8A#8 x y = .adcAD), rfl⟩
theorem DecodesFromWindow.adcAE : DecodesFromWindow.Statement .adcAE :=
  fun _ x y => ⟨(rfl : decodeWindow 0x8B#8 x y = .adcAE), rfl⟩
theorem DecodesFromWindow.adcAH : DecodesFromWindow.Statement .adcAH :=
  fun _ x y => ⟨(rfl : decodeWindow 0x8C#8 x y = .adcAH), rfl⟩
theorem DecodesFromWindow.adcAL : DecodesFromWindow.Statement .adcAL :=
  fun _ x y => ⟨(rfl : decodeWindow 0x8D#8 x y = .adcAL), rfl⟩
theorem DecodesFromWindow.adcAAtHl : DecodesFromWindow.Statement .adcAAtHl :=
  fun _ x y => ⟨(rfl : decodeWindow 0x8E#8 x y = .adcAAtHl), rfl⟩
theorem DecodesFromWindow.adcAA : DecodesFromWindow.Statement .adcAA :=
  fun _ x y => ⟨(rfl : decodeWindow 0x8F#8 x y = .adcAA), rfl⟩
theorem DecodesFromWindow.subB : DecodesFromWindow.Statement .subB :=
  fun _ x y => ⟨(rfl : decodeWindow 0x90#8 x y = .subB), rfl⟩
theorem DecodesFromWindow.subC : DecodesFromWindow.Statement .subC :=
  fun _ x y => ⟨(rfl : decodeWindow 0x91#8 x y = .subC), rfl⟩
theorem DecodesFromWindow.subD : DecodesFromWindow.Statement .subD :=
  fun _ x y => ⟨(rfl : decodeWindow 0x92#8 x y = .subD), rfl⟩
theorem DecodesFromWindow.subE : DecodesFromWindow.Statement .subE :=
  fun _ x y => ⟨(rfl : decodeWindow 0x93#8 x y = .subE), rfl⟩
theorem DecodesFromWindow.subH : DecodesFromWindow.Statement .subH :=
  fun _ x y => ⟨(rfl : decodeWindow 0x94#8 x y = .subH), rfl⟩
theorem DecodesFromWindow.subL : DecodesFromWindow.Statement .subL :=
  fun _ x y => ⟨(rfl : decodeWindow 0x95#8 x y = .subL), rfl⟩
theorem DecodesFromWindow.subAtHl : DecodesFromWindow.Statement .subAtHl :=
  fun _ x y => ⟨(rfl : decodeWindow 0x96#8 x y = .subAtHl), rfl⟩
theorem DecodesFromWindow.subA : DecodesFromWindow.Statement .subA :=
  fun _ x y => ⟨(rfl : decodeWindow 0x97#8 x y = .subA), rfl⟩
theorem DecodesFromWindow.sbcAB : DecodesFromWindow.Statement .sbcAB :=
  fun _ x y => ⟨(rfl : decodeWindow 0x98#8 x y = .sbcAB), rfl⟩
theorem DecodesFromWindow.sbcAC : DecodesFromWindow.Statement .sbcAC :=
  fun _ x y => ⟨(rfl : decodeWindow 0x99#8 x y = .sbcAC), rfl⟩
theorem DecodesFromWindow.sbcAD : DecodesFromWindow.Statement .sbcAD :=
  fun _ x y => ⟨(rfl : decodeWindow 0x9A#8 x y = .sbcAD), rfl⟩
theorem DecodesFromWindow.sbcAE : DecodesFromWindow.Statement .sbcAE :=
  fun _ x y => ⟨(rfl : decodeWindow 0x9B#8 x y = .sbcAE), rfl⟩
theorem DecodesFromWindow.sbcAH : DecodesFromWindow.Statement .sbcAH :=
  fun _ x y => ⟨(rfl : decodeWindow 0x9C#8 x y = .sbcAH), rfl⟩
theorem DecodesFromWindow.sbcAL : DecodesFromWindow.Statement .sbcAL :=
  fun _ x y => ⟨(rfl : decodeWindow 0x9D#8 x y = .sbcAL), rfl⟩
theorem DecodesFromWindow.sbcAAtHl : DecodesFromWindow.Statement .sbcAAtHl :=
  fun _ x y => ⟨(rfl : decodeWindow 0x9E#8 x y = .sbcAAtHl), rfl⟩
theorem DecodesFromWindow.sbcAA : DecodesFromWindow.Statement .sbcAA :=
  fun _ x y => ⟨(rfl : decodeWindow 0x9F#8 x y = .sbcAA), rfl⟩
theorem DecodesFromWindow.andB : DecodesFromWindow.Statement .andB :=
  fun _ x y => ⟨(rfl : decodeWindow 0xA0#8 x y = .andB), rfl⟩
theorem DecodesFromWindow.andC : DecodesFromWindow.Statement .andC :=
  fun _ x y => ⟨(rfl : decodeWindow 0xA1#8 x y = .andC), rfl⟩
theorem DecodesFromWindow.andD : DecodesFromWindow.Statement .andD :=
  fun _ x y => ⟨(rfl : decodeWindow 0xA2#8 x y = .andD), rfl⟩
theorem DecodesFromWindow.andE : DecodesFromWindow.Statement .andE :=
  fun _ x y => ⟨(rfl : decodeWindow 0xA3#8 x y = .andE), rfl⟩
theorem DecodesFromWindow.andH : DecodesFromWindow.Statement .andH :=
  fun _ x y => ⟨(rfl : decodeWindow 0xA4#8 x y = .andH), rfl⟩
theorem DecodesFromWindow.andL : DecodesFromWindow.Statement .andL :=
  fun _ x y => ⟨(rfl : decodeWindow 0xA5#8 x y = .andL), rfl⟩
theorem DecodesFromWindow.andAtHl : DecodesFromWindow.Statement .andAtHl :=
  fun _ x y => ⟨(rfl : decodeWindow 0xA6#8 x y = .andAtHl), rfl⟩
theorem DecodesFromWindow.andA : DecodesFromWindow.Statement .andA :=
  fun _ x y => ⟨(rfl : decodeWindow 0xA7#8 x y = .andA), rfl⟩
theorem DecodesFromWindow.xorB : DecodesFromWindow.Statement .xorB :=
  fun _ x y => ⟨(rfl : decodeWindow 0xA8#8 x y = .xorB), rfl⟩
theorem DecodesFromWindow.xorC : DecodesFromWindow.Statement .xorC :=
  fun _ x y => ⟨(rfl : decodeWindow 0xA9#8 x y = .xorC), rfl⟩
theorem DecodesFromWindow.xorD : DecodesFromWindow.Statement .xorD :=
  fun _ x y => ⟨(rfl : decodeWindow 0xAA#8 x y = .xorD), rfl⟩
theorem DecodesFromWindow.xorE : DecodesFromWindow.Statement .xorE :=
  fun _ x y => ⟨(rfl : decodeWindow 0xAB#8 x y = .xorE), rfl⟩
theorem DecodesFromWindow.xorH : DecodesFromWindow.Statement .xorH :=
  fun _ x y => ⟨(rfl : decodeWindow 0xAC#8 x y = .xorH), rfl⟩
theorem DecodesFromWindow.xorL : DecodesFromWindow.Statement .xorL :=
  fun _ x y => ⟨(rfl : decodeWindow 0xAD#8 x y = .xorL), rfl⟩
theorem DecodesFromWindow.xorAtHl : DecodesFromWindow.Statement .xorAtHl :=
  fun _ x y => ⟨(rfl : decodeWindow 0xAE#8 x y = .xorAtHl), rfl⟩
theorem DecodesFromWindow.xorA : DecodesFromWindow.Statement .xorA :=
  fun _ x y => ⟨(rfl : decodeWindow 0xAF#8 x y = .xorA), rfl⟩
theorem DecodesFromWindow.orB : DecodesFromWindow.Statement .orB :=
  fun _ x y => ⟨(rfl : decodeWindow 0xB0#8 x y = .orB), rfl⟩
theorem DecodesFromWindow.orC : DecodesFromWindow.Statement .orC :=
  fun _ x y => ⟨(rfl : decodeWindow 0xB1#8 x y = .orC), rfl⟩
theorem DecodesFromWindow.orD : DecodesFromWindow.Statement .orD :=
  fun _ x y => ⟨(rfl : decodeWindow 0xB2#8 x y = .orD), rfl⟩
theorem DecodesFromWindow.orE : DecodesFromWindow.Statement .orE :=
  fun _ x y => ⟨(rfl : decodeWindow 0xB3#8 x y = .orE), rfl⟩
theorem DecodesFromWindow.orH : DecodesFromWindow.Statement .orH :=
  fun _ x y => ⟨(rfl : decodeWindow 0xB4#8 x y = .orH), rfl⟩
theorem DecodesFromWindow.orL : DecodesFromWindow.Statement .orL :=
  fun _ x y => ⟨(rfl : decodeWindow 0xB5#8 x y = .orL), rfl⟩
theorem DecodesFromWindow.orAtHl : DecodesFromWindow.Statement .orAtHl :=
  fun _ x y => ⟨(rfl : decodeWindow 0xB6#8 x y = .orAtHl), rfl⟩
theorem DecodesFromWindow.orA : DecodesFromWindow.Statement .orA :=
  fun _ x y => ⟨(rfl : decodeWindow 0xB7#8 x y = .orA), rfl⟩
theorem DecodesFromWindow.cpB : DecodesFromWindow.Statement .cpB :=
  fun _ x y => ⟨(rfl : decodeWindow 0xB8#8 x y = .cpB), rfl⟩
theorem DecodesFromWindow.cpC : DecodesFromWindow.Statement .cpC :=
  fun _ x y => ⟨(rfl : decodeWindow 0xB9#8 x y = .cpC), rfl⟩
theorem DecodesFromWindow.cpD : DecodesFromWindow.Statement .cpD :=
  fun _ x y => ⟨(rfl : decodeWindow 0xBA#8 x y = .cpD), rfl⟩
theorem DecodesFromWindow.cpE : DecodesFromWindow.Statement .cpE :=
  fun _ x y => ⟨(rfl : decodeWindow 0xBB#8 x y = .cpE), rfl⟩
theorem DecodesFromWindow.cpH : DecodesFromWindow.Statement .cpH :=
  fun _ x y => ⟨(rfl : decodeWindow 0xBC#8 x y = .cpH), rfl⟩
theorem DecodesFromWindow.cpL : DecodesFromWindow.Statement .cpL :=
  fun _ x y => ⟨(rfl : decodeWindow 0xBD#8 x y = .cpL), rfl⟩
theorem DecodesFromWindow.cpAtHl : DecodesFromWindow.Statement .cpAtHl :=
  fun _ x y => ⟨(rfl : decodeWindow 0xBE#8 x y = .cpAtHl), rfl⟩
theorem DecodesFromWindow.cpA : DecodesFromWindow.Statement .cpA :=
  fun _ x y => ⟨(rfl : decodeWindow 0xBF#8 x y = .cpA), rfl⟩
theorem DecodesFromWindow.retNz : DecodesFromWindow.Statement .retNz :=
  fun _ x y => ⟨(rfl : decodeWindow 0xC0#8 x y = .retNz), rfl⟩
theorem DecodesFromWindow.popBc : DecodesFromWindow.Statement .popBc :=
  fun _ x y => ⟨(rfl : decodeWindow 0xC1#8 x y = .popBc), rfl⟩
theorem DecodesFromWindow.pushBc : DecodesFromWindow.Statement .pushBc :=
  fun _ x y => ⟨(rfl : decodeWindow 0xC5#8 x y = .pushBc), rfl⟩
theorem DecodesFromWindow.rst00 : DecodesFromWindow.Statement .rst00 :=
  fun _ x y => ⟨(rfl : decodeWindow 0xC7#8 x y = .rst00), rfl⟩
theorem DecodesFromWindow.retZ : DecodesFromWindow.Statement .retZ :=
  fun _ x y => ⟨(rfl : decodeWindow 0xC8#8 x y = .retZ), rfl⟩
theorem DecodesFromWindow.ret : DecodesFromWindow.Statement .ret :=
  fun _ x y => ⟨(rfl : decodeWindow 0xC9#8 x y = .ret), rfl⟩
theorem DecodesFromWindow.prefixCb : DecodesFromWindow.Statement .prefixCb := fun h => absurd rfl h
theorem DecodesFromWindow.rst08 : DecodesFromWindow.Statement .rst08 :=
  fun _ x y => ⟨(rfl : decodeWindow 0xCF#8 x y = .rst08), rfl⟩
theorem DecodesFromWindow.retNc : DecodesFromWindow.Statement .retNc :=
  fun _ x y => ⟨(rfl : decodeWindow 0xD0#8 x y = .retNc), rfl⟩
theorem DecodesFromWindow.popDe : DecodesFromWindow.Statement .popDe :=
  fun _ x y => ⟨(rfl : decodeWindow 0xD1#8 x y = .popDe), rfl⟩
theorem DecodesFromWindow.illegalD3 : DecodesFromWindow.Statement .illegalD3 :=
  fun _ x y => ⟨(rfl : decodeWindow 0xD3#8 x y = .illegalD3), rfl⟩
theorem DecodesFromWindow.pushDe : DecodesFromWindow.Statement .pushDe :=
  fun _ x y => ⟨(rfl : decodeWindow 0xD5#8 x y = .pushDe), rfl⟩
theorem DecodesFromWindow.rst10 : DecodesFromWindow.Statement .rst10 :=
  fun _ x y => ⟨(rfl : decodeWindow 0xD7#8 x y = .rst10), rfl⟩
theorem DecodesFromWindow.retC : DecodesFromWindow.Statement .retC :=
  fun _ x y => ⟨(rfl : decodeWindow 0xD8#8 x y = .retC), rfl⟩
theorem DecodesFromWindow.reti : DecodesFromWindow.Statement .reti :=
  fun _ x y => ⟨(rfl : decodeWindow 0xD9#8 x y = .reti), rfl⟩
theorem DecodesFromWindow.illegalDB : DecodesFromWindow.Statement .illegalDB :=
  fun _ x y => ⟨(rfl : decodeWindow 0xDB#8 x y = .illegalDB), rfl⟩
theorem DecodesFromWindow.illegalDD : DecodesFromWindow.Statement .illegalDD :=
  fun _ x y => ⟨(rfl : decodeWindow 0xDD#8 x y = .illegalDD), rfl⟩
theorem DecodesFromWindow.rst18 : DecodesFromWindow.Statement .rst18 :=
  fun _ x y => ⟨(rfl : decodeWindow 0xDF#8 x y = .rst18), rfl⟩
theorem DecodesFromWindow.popHl : DecodesFromWindow.Statement .popHl :=
  fun _ x y => ⟨(rfl : decodeWindow 0xE1#8 x y = .popHl), rfl⟩
theorem DecodesFromWindow.ldhAtCA : DecodesFromWindow.Statement .ldhAtCA :=
  fun _ x y => ⟨(rfl : decodeWindow 0xE2#8 x y = .ldhAtCA), rfl⟩
theorem DecodesFromWindow.illegalE3 : DecodesFromWindow.Statement .illegalE3 :=
  fun _ x y => ⟨(rfl : decodeWindow 0xE3#8 x y = .illegalE3), rfl⟩
theorem DecodesFromWindow.illegalE4 : DecodesFromWindow.Statement .illegalE4 :=
  fun _ x y => ⟨(rfl : decodeWindow 0xE4#8 x y = .illegalE4), rfl⟩
theorem DecodesFromWindow.pushHl : DecodesFromWindow.Statement .pushHl :=
  fun _ x y => ⟨(rfl : decodeWindow 0xE5#8 x y = .pushHl), rfl⟩
theorem DecodesFromWindow.rst20 : DecodesFromWindow.Statement .rst20 :=
  fun _ x y => ⟨(rfl : decodeWindow 0xE7#8 x y = .rst20), rfl⟩
theorem DecodesFromWindow.jpHl : DecodesFromWindow.Statement .jpHl :=
  fun _ x y => ⟨(rfl : decodeWindow 0xE9#8 x y = .jpHl), rfl⟩
theorem DecodesFromWindow.illegalEB : DecodesFromWindow.Statement .illegalEB :=
  fun _ x y => ⟨(rfl : decodeWindow 0xEB#8 x y = .illegalEB), rfl⟩
theorem DecodesFromWindow.illegalEC : DecodesFromWindow.Statement .illegalEC :=
  fun _ x y => ⟨(rfl : decodeWindow 0xEC#8 x y = .illegalEC), rfl⟩
theorem DecodesFromWindow.illegalED : DecodesFromWindow.Statement .illegalED :=
  fun _ x y => ⟨(rfl : decodeWindow 0xED#8 x y = .illegalED), rfl⟩
theorem DecodesFromWindow.rst28 : DecodesFromWindow.Statement .rst28 :=
  fun _ x y => ⟨(rfl : decodeWindow 0xEF#8 x y = .rst28), rfl⟩
theorem DecodesFromWindow.popAf : DecodesFromWindow.Statement .popAf :=
  fun _ x y => ⟨(rfl : decodeWindow 0xF1#8 x y = .popAf), rfl⟩
theorem DecodesFromWindow.ldhAAtC : DecodesFromWindow.Statement .ldhAAtC :=
  fun _ x y => ⟨(rfl : decodeWindow 0xF2#8 x y = .ldhAAtC), rfl⟩
theorem DecodesFromWindow.di : DecodesFromWindow.Statement .di :=
  fun _ x y => ⟨(rfl : decodeWindow 0xF3#8 x y = .di), rfl⟩
theorem DecodesFromWindow.illegalF4 : DecodesFromWindow.Statement .illegalF4 :=
  fun _ x y => ⟨(rfl : decodeWindow 0xF4#8 x y = .illegalF4), rfl⟩
theorem DecodesFromWindow.pushAf : DecodesFromWindow.Statement .pushAf :=
  fun _ x y => ⟨(rfl : decodeWindow 0xF5#8 x y = .pushAf), rfl⟩
theorem DecodesFromWindow.rst30 : DecodesFromWindow.Statement .rst30 :=
  fun _ x y => ⟨(rfl : decodeWindow 0xF7#8 x y = .rst30), rfl⟩
theorem DecodesFromWindow.ldSpHl : DecodesFromWindow.Statement .ldSpHl :=
  fun _ x y => ⟨(rfl : decodeWindow 0xF9#8 x y = .ldSpHl), rfl⟩
theorem DecodesFromWindow.ei : DecodesFromWindow.Statement .ei :=
  fun _ x y => ⟨(rfl : decodeWindow 0xFB#8 x y = .ei), rfl⟩
theorem DecodesFromWindow.illegalFC : DecodesFromWindow.Statement .illegalFC :=
  fun _ x y => ⟨(rfl : decodeWindow 0xFC#8 x y = .illegalFC), rfl⟩
theorem DecodesFromWindow.illegalFD : DecodesFromWindow.Statement .illegalFD :=
  fun _ x y => ⟨(rfl : decodeWindow 0xFD#8 x y = .illegalFD), rfl⟩
theorem DecodesFromWindow.rst38 : DecodesFromWindow.Statement .rst38 :=
  fun _ x y => ⟨(rfl : decodeWindow 0xFF#8 x y = .rst38), rfl⟩
theorem DecodesFromWindow.rlcB : DecodesFromWindow.Statement .rlcB :=
  fun _ x _ => ⟨(rfl : decodeWindow 0xCB#8 0x00#8 x = .rlcB), rfl⟩
theorem DecodesFromWindow.rlcC : DecodesFromWindow.Statement .rlcC :=
  fun _ x _ => ⟨(rfl : decodeWindow 0xCB#8 0x01#8 x = .rlcC), rfl⟩
theorem DecodesFromWindow.rlcD : DecodesFromWindow.Statement .rlcD :=
  fun _ x _ => ⟨(rfl : decodeWindow 0xCB#8 0x02#8 x = .rlcD), rfl⟩
theorem DecodesFromWindow.rlcE : DecodesFromWindow.Statement .rlcE :=
  fun _ x _ => ⟨(rfl : decodeWindow 0xCB#8 0x03#8 x = .rlcE), rfl⟩
theorem DecodesFromWindow.rlcH : DecodesFromWindow.Statement .rlcH :=
  fun _ x _ => ⟨(rfl : decodeWindow 0xCB#8 0x04#8 x = .rlcH), rfl⟩
theorem DecodesFromWindow.rlcL : DecodesFromWindow.Statement .rlcL :=
  fun _ x _ => ⟨(rfl : decodeWindow 0xCB#8 0x05#8 x = .rlcL), rfl⟩
theorem DecodesFromWindow.rlcAtHl : DecodesFromWindow.Statement .rlcAtHl :=
  fun _ x _ => ⟨(rfl : decodeWindow 0xCB#8 0x06#8 x = .rlcAtHl), rfl⟩
theorem DecodesFromWindow.rlcA : DecodesFromWindow.Statement .rlcA :=
  fun _ x _ => ⟨(rfl : decodeWindow 0xCB#8 0x07#8 x = .rlcA), rfl⟩
theorem DecodesFromWindow.rrcB : DecodesFromWindow.Statement .rrcB :=
  fun _ x _ => ⟨(rfl : decodeWindow 0xCB#8 0x08#8 x = .rrcB), rfl⟩
theorem DecodesFromWindow.rrcC : DecodesFromWindow.Statement .rrcC :=
  fun _ x _ => ⟨(rfl : decodeWindow 0xCB#8 0x09#8 x = .rrcC), rfl⟩
theorem DecodesFromWindow.rrcD : DecodesFromWindow.Statement .rrcD :=
  fun _ x _ => ⟨(rfl : decodeWindow 0xCB#8 0x0A#8 x = .rrcD), rfl⟩
theorem DecodesFromWindow.rrcE : DecodesFromWindow.Statement .rrcE :=
  fun _ x _ => ⟨(rfl : decodeWindow 0xCB#8 0x0B#8 x = .rrcE), rfl⟩
theorem DecodesFromWindow.rrcH : DecodesFromWindow.Statement .rrcH :=
  fun _ x _ => ⟨(rfl : decodeWindow 0xCB#8 0x0C#8 x = .rrcH), rfl⟩
theorem DecodesFromWindow.rrcL : DecodesFromWindow.Statement .rrcL :=
  fun _ x _ => ⟨(rfl : decodeWindow 0xCB#8 0x0D#8 x = .rrcL), rfl⟩
theorem DecodesFromWindow.rrcAtHl : DecodesFromWindow.Statement .rrcAtHl :=
  fun _ x _ => ⟨(rfl : decodeWindow 0xCB#8 0x0E#8 x = .rrcAtHl), rfl⟩
theorem DecodesFromWindow.rrcA : DecodesFromWindow.Statement .rrcA :=
  fun _ x _ => ⟨(rfl : decodeWindow 0xCB#8 0x0F#8 x = .rrcA), rfl⟩
theorem DecodesFromWindow.rlB : DecodesFromWindow.Statement .rlB :=
  fun _ x _ => ⟨(rfl : decodeWindow 0xCB#8 0x10#8 x = .rlB), rfl⟩
theorem DecodesFromWindow.rlC : DecodesFromWindow.Statement .rlC :=
  fun _ x _ => ⟨(rfl : decodeWindow 0xCB#8 0x11#8 x = .rlC), rfl⟩
theorem DecodesFromWindow.rlD : DecodesFromWindow.Statement .rlD :=
  fun _ x _ => ⟨(rfl : decodeWindow 0xCB#8 0x12#8 x = .rlD), rfl⟩
theorem DecodesFromWindow.rlE : DecodesFromWindow.Statement .rlE :=
  fun _ x _ => ⟨(rfl : decodeWindow 0xCB#8 0x13#8 x = .rlE), rfl⟩
theorem DecodesFromWindow.rlH : DecodesFromWindow.Statement .rlH :=
  fun _ x _ => ⟨(rfl : decodeWindow 0xCB#8 0x14#8 x = .rlH), rfl⟩
theorem DecodesFromWindow.rlL : DecodesFromWindow.Statement .rlL :=
  fun _ x _ => ⟨(rfl : decodeWindow 0xCB#8 0x15#8 x = .rlL), rfl⟩
theorem DecodesFromWindow.rlAtHl : DecodesFromWindow.Statement .rlAtHl :=
  fun _ x _ => ⟨(rfl : decodeWindow 0xCB#8 0x16#8 x = .rlAtHl), rfl⟩
theorem DecodesFromWindow.rlA : DecodesFromWindow.Statement .rlA :=
  fun _ x _ => ⟨(rfl : decodeWindow 0xCB#8 0x17#8 x = .rlA), rfl⟩
theorem DecodesFromWindow.rrB : DecodesFromWindow.Statement .rrB :=
  fun _ x _ => ⟨(rfl : decodeWindow 0xCB#8 0x18#8 x = .rrB), rfl⟩
theorem DecodesFromWindow.rrC : DecodesFromWindow.Statement .rrC :=
  fun _ x _ => ⟨(rfl : decodeWindow 0xCB#8 0x19#8 x = .rrC), rfl⟩
theorem DecodesFromWindow.rrD : DecodesFromWindow.Statement .rrD :=
  fun _ x _ => ⟨(rfl : decodeWindow 0xCB#8 0x1A#8 x = .rrD), rfl⟩
theorem DecodesFromWindow.rrE : DecodesFromWindow.Statement .rrE :=
  fun _ x _ => ⟨(rfl : decodeWindow 0xCB#8 0x1B#8 x = .rrE), rfl⟩
theorem DecodesFromWindow.rrH : DecodesFromWindow.Statement .rrH :=
  fun _ x _ => ⟨(rfl : decodeWindow 0xCB#8 0x1C#8 x = .rrH), rfl⟩
theorem DecodesFromWindow.rrL : DecodesFromWindow.Statement .rrL :=
  fun _ x _ => ⟨(rfl : decodeWindow 0xCB#8 0x1D#8 x = .rrL), rfl⟩
theorem DecodesFromWindow.rrAtHl : DecodesFromWindow.Statement .rrAtHl :=
  fun _ x _ => ⟨(rfl : decodeWindow 0xCB#8 0x1E#8 x = .rrAtHl), rfl⟩
theorem DecodesFromWindow.rrA : DecodesFromWindow.Statement .rrA :=
  fun _ x _ => ⟨(rfl : decodeWindow 0xCB#8 0x1F#8 x = .rrA), rfl⟩
theorem DecodesFromWindow.slaB : DecodesFromWindow.Statement .slaB :=
  fun _ x _ => ⟨(rfl : decodeWindow 0xCB#8 0x20#8 x = .slaB), rfl⟩
theorem DecodesFromWindow.slaC : DecodesFromWindow.Statement .slaC :=
  fun _ x _ => ⟨(rfl : decodeWindow 0xCB#8 0x21#8 x = .slaC), rfl⟩
theorem DecodesFromWindow.slaD : DecodesFromWindow.Statement .slaD :=
  fun _ x _ => ⟨(rfl : decodeWindow 0xCB#8 0x22#8 x = .slaD), rfl⟩
theorem DecodesFromWindow.slaE : DecodesFromWindow.Statement .slaE :=
  fun _ x _ => ⟨(rfl : decodeWindow 0xCB#8 0x23#8 x = .slaE), rfl⟩
theorem DecodesFromWindow.slaH : DecodesFromWindow.Statement .slaH :=
  fun _ x _ => ⟨(rfl : decodeWindow 0xCB#8 0x24#8 x = .slaH), rfl⟩
theorem DecodesFromWindow.slaL : DecodesFromWindow.Statement .slaL :=
  fun _ x _ => ⟨(rfl : decodeWindow 0xCB#8 0x25#8 x = .slaL), rfl⟩
theorem DecodesFromWindow.slaAtHl : DecodesFromWindow.Statement .slaAtHl :=
  fun _ x _ => ⟨(rfl : decodeWindow 0xCB#8 0x26#8 x = .slaAtHl), rfl⟩
theorem DecodesFromWindow.slaA : DecodesFromWindow.Statement .slaA :=
  fun _ x _ => ⟨(rfl : decodeWindow 0xCB#8 0x27#8 x = .slaA), rfl⟩
theorem DecodesFromWindow.sraB : DecodesFromWindow.Statement .sraB :=
  fun _ x _ => ⟨(rfl : decodeWindow 0xCB#8 0x28#8 x = .sraB), rfl⟩
theorem DecodesFromWindow.sraC : DecodesFromWindow.Statement .sraC :=
  fun _ x _ => ⟨(rfl : decodeWindow 0xCB#8 0x29#8 x = .sraC), rfl⟩
theorem DecodesFromWindow.sraD : DecodesFromWindow.Statement .sraD :=
  fun _ x _ => ⟨(rfl : decodeWindow 0xCB#8 0x2A#8 x = .sraD), rfl⟩
theorem DecodesFromWindow.sraE : DecodesFromWindow.Statement .sraE :=
  fun _ x _ => ⟨(rfl : decodeWindow 0xCB#8 0x2B#8 x = .sraE), rfl⟩
theorem DecodesFromWindow.sraH : DecodesFromWindow.Statement .sraH :=
  fun _ x _ => ⟨(rfl : decodeWindow 0xCB#8 0x2C#8 x = .sraH), rfl⟩
theorem DecodesFromWindow.sraL : DecodesFromWindow.Statement .sraL :=
  fun _ x _ => ⟨(rfl : decodeWindow 0xCB#8 0x2D#8 x = .sraL), rfl⟩
theorem DecodesFromWindow.sraAtHl : DecodesFromWindow.Statement .sraAtHl :=
  fun _ x _ => ⟨(rfl : decodeWindow 0xCB#8 0x2E#8 x = .sraAtHl), rfl⟩
theorem DecodesFromWindow.sraA : DecodesFromWindow.Statement .sraA :=
  fun _ x _ => ⟨(rfl : decodeWindow 0xCB#8 0x2F#8 x = .sraA), rfl⟩
theorem DecodesFromWindow.swapB : DecodesFromWindow.Statement .swapB :=
  fun _ x _ => ⟨(rfl : decodeWindow 0xCB#8 0x30#8 x = .swapB), rfl⟩
theorem DecodesFromWindow.swapC : DecodesFromWindow.Statement .swapC :=
  fun _ x _ => ⟨(rfl : decodeWindow 0xCB#8 0x31#8 x = .swapC), rfl⟩
theorem DecodesFromWindow.swapD : DecodesFromWindow.Statement .swapD :=
  fun _ x _ => ⟨(rfl : decodeWindow 0xCB#8 0x32#8 x = .swapD), rfl⟩
theorem DecodesFromWindow.swapE : DecodesFromWindow.Statement .swapE :=
  fun _ x _ => ⟨(rfl : decodeWindow 0xCB#8 0x33#8 x = .swapE), rfl⟩
theorem DecodesFromWindow.swapH : DecodesFromWindow.Statement .swapH :=
  fun _ x _ => ⟨(rfl : decodeWindow 0xCB#8 0x34#8 x = .swapH), rfl⟩
theorem DecodesFromWindow.swapL : DecodesFromWindow.Statement .swapL :=
  fun _ x _ => ⟨(rfl : decodeWindow 0xCB#8 0x35#8 x = .swapL), rfl⟩
theorem DecodesFromWindow.swapAtHl : DecodesFromWindow.Statement .swapAtHl :=
  fun _ x _ => ⟨(rfl : decodeWindow 0xCB#8 0x36#8 x = .swapAtHl), rfl⟩
theorem DecodesFromWindow.swapA : DecodesFromWindow.Statement .swapA :=
  fun _ x _ => ⟨(rfl : decodeWindow 0xCB#8 0x37#8 x = .swapA), rfl⟩
theorem DecodesFromWindow.srlB : DecodesFromWindow.Statement .srlB :=
  fun _ x _ => ⟨(rfl : decodeWindow 0xCB#8 0x38#8 x = .srlB), rfl⟩
theorem DecodesFromWindow.srlC : DecodesFromWindow.Statement .srlC :=
  fun _ x _ => ⟨(rfl : decodeWindow 0xCB#8 0x39#8 x = .srlC), rfl⟩
theorem DecodesFromWindow.srlD : DecodesFromWindow.Statement .srlD :=
  fun _ x _ => ⟨(rfl : decodeWindow 0xCB#8 0x3A#8 x = .srlD), rfl⟩
theorem DecodesFromWindow.srlE : DecodesFromWindow.Statement .srlE :=
  fun _ x _ => ⟨(rfl : decodeWindow 0xCB#8 0x3B#8 x = .srlE), rfl⟩
theorem DecodesFromWindow.srlH : DecodesFromWindow.Statement .srlH :=
  fun _ x _ => ⟨(rfl : decodeWindow 0xCB#8 0x3C#8 x = .srlH), rfl⟩
theorem DecodesFromWindow.srlL : DecodesFromWindow.Statement .srlL :=
  fun _ x _ => ⟨(rfl : decodeWindow 0xCB#8 0x3D#8 x = .srlL), rfl⟩
theorem DecodesFromWindow.srlAtHl : DecodesFromWindow.Statement .srlAtHl :=
  fun _ x _ => ⟨(rfl : decodeWindow 0xCB#8 0x3E#8 x = .srlAtHl), rfl⟩
theorem DecodesFromWindow.srlA : DecodesFromWindow.Statement .srlA :=
  fun _ x _ => ⟨(rfl : decodeWindow 0xCB#8 0x3F#8 x = .srlA), rfl⟩
theorem DecodesFromWindow.bit0B : DecodesFromWindow.Statement .bit0B :=
  fun _ x _ => ⟨(rfl : decodeWindow 0xCB#8 0x40#8 x = .bit0B), rfl⟩
theorem DecodesFromWindow.bit0C : DecodesFromWindow.Statement .bit0C :=
  fun _ x _ => ⟨(rfl : decodeWindow 0xCB#8 0x41#8 x = .bit0C), rfl⟩
theorem DecodesFromWindow.bit0D : DecodesFromWindow.Statement .bit0D :=
  fun _ x _ => ⟨(rfl : decodeWindow 0xCB#8 0x42#8 x = .bit0D), rfl⟩
theorem DecodesFromWindow.bit0E : DecodesFromWindow.Statement .bit0E :=
  fun _ x _ => ⟨(rfl : decodeWindow 0xCB#8 0x43#8 x = .bit0E), rfl⟩
theorem DecodesFromWindow.bit0H : DecodesFromWindow.Statement .bit0H :=
  fun _ x _ => ⟨(rfl : decodeWindow 0xCB#8 0x44#8 x = .bit0H), rfl⟩
theorem DecodesFromWindow.bit0L : DecodesFromWindow.Statement .bit0L :=
  fun _ x _ => ⟨(rfl : decodeWindow 0xCB#8 0x45#8 x = .bit0L), rfl⟩
theorem DecodesFromWindow.bit0AtHl : DecodesFromWindow.Statement .bit0AtHl :=
  fun _ x _ => ⟨(rfl : decodeWindow 0xCB#8 0x46#8 x = .bit0AtHl), rfl⟩
theorem DecodesFromWindow.bit0A : DecodesFromWindow.Statement .bit0A :=
  fun _ x _ => ⟨(rfl : decodeWindow 0xCB#8 0x47#8 x = .bit0A), rfl⟩
theorem DecodesFromWindow.bit1B : DecodesFromWindow.Statement .bit1B :=
  fun _ x _ => ⟨(rfl : decodeWindow 0xCB#8 0x48#8 x = .bit1B), rfl⟩
theorem DecodesFromWindow.bit1C : DecodesFromWindow.Statement .bit1C :=
  fun _ x _ => ⟨(rfl : decodeWindow 0xCB#8 0x49#8 x = .bit1C), rfl⟩
theorem DecodesFromWindow.bit1D : DecodesFromWindow.Statement .bit1D :=
  fun _ x _ => ⟨(rfl : decodeWindow 0xCB#8 0x4A#8 x = .bit1D), rfl⟩
theorem DecodesFromWindow.bit1E : DecodesFromWindow.Statement .bit1E :=
  fun _ x _ => ⟨(rfl : decodeWindow 0xCB#8 0x4B#8 x = .bit1E), rfl⟩
theorem DecodesFromWindow.bit1H : DecodesFromWindow.Statement .bit1H :=
  fun _ x _ => ⟨(rfl : decodeWindow 0xCB#8 0x4C#8 x = .bit1H), rfl⟩
theorem DecodesFromWindow.bit1L : DecodesFromWindow.Statement .bit1L :=
  fun _ x _ => ⟨(rfl : decodeWindow 0xCB#8 0x4D#8 x = .bit1L), rfl⟩
theorem DecodesFromWindow.bit1AtHl : DecodesFromWindow.Statement .bit1AtHl :=
  fun _ x _ => ⟨(rfl : decodeWindow 0xCB#8 0x4E#8 x = .bit1AtHl), rfl⟩
theorem DecodesFromWindow.bit1A : DecodesFromWindow.Statement .bit1A :=
  fun _ x _ => ⟨(rfl : decodeWindow 0xCB#8 0x4F#8 x = .bit1A), rfl⟩
theorem DecodesFromWindow.bit2B : DecodesFromWindow.Statement .bit2B :=
  fun _ x _ => ⟨(rfl : decodeWindow 0xCB#8 0x50#8 x = .bit2B), rfl⟩
theorem DecodesFromWindow.bit2C : DecodesFromWindow.Statement .bit2C :=
  fun _ x _ => ⟨(rfl : decodeWindow 0xCB#8 0x51#8 x = .bit2C), rfl⟩
theorem DecodesFromWindow.bit2D : DecodesFromWindow.Statement .bit2D :=
  fun _ x _ => ⟨(rfl : decodeWindow 0xCB#8 0x52#8 x = .bit2D), rfl⟩
theorem DecodesFromWindow.bit2E : DecodesFromWindow.Statement .bit2E :=
  fun _ x _ => ⟨(rfl : decodeWindow 0xCB#8 0x53#8 x = .bit2E), rfl⟩
theorem DecodesFromWindow.bit2H : DecodesFromWindow.Statement .bit2H :=
  fun _ x _ => ⟨(rfl : decodeWindow 0xCB#8 0x54#8 x = .bit2H), rfl⟩
theorem DecodesFromWindow.bit2L : DecodesFromWindow.Statement .bit2L :=
  fun _ x _ => ⟨(rfl : decodeWindow 0xCB#8 0x55#8 x = .bit2L), rfl⟩
theorem DecodesFromWindow.bit2AtHl : DecodesFromWindow.Statement .bit2AtHl :=
  fun _ x _ => ⟨(rfl : decodeWindow 0xCB#8 0x56#8 x = .bit2AtHl), rfl⟩
theorem DecodesFromWindow.bit2A : DecodesFromWindow.Statement .bit2A :=
  fun _ x _ => ⟨(rfl : decodeWindow 0xCB#8 0x57#8 x = .bit2A), rfl⟩
theorem DecodesFromWindow.bit3B : DecodesFromWindow.Statement .bit3B :=
  fun _ x _ => ⟨(rfl : decodeWindow 0xCB#8 0x58#8 x = .bit3B), rfl⟩
theorem DecodesFromWindow.bit3C : DecodesFromWindow.Statement .bit3C :=
  fun _ x _ => ⟨(rfl : decodeWindow 0xCB#8 0x59#8 x = .bit3C), rfl⟩
theorem DecodesFromWindow.bit3D : DecodesFromWindow.Statement .bit3D :=
  fun _ x _ => ⟨(rfl : decodeWindow 0xCB#8 0x5A#8 x = .bit3D), rfl⟩
theorem DecodesFromWindow.bit3E : DecodesFromWindow.Statement .bit3E :=
  fun _ x _ => ⟨(rfl : decodeWindow 0xCB#8 0x5B#8 x = .bit3E), rfl⟩
theorem DecodesFromWindow.bit3H : DecodesFromWindow.Statement .bit3H :=
  fun _ x _ => ⟨(rfl : decodeWindow 0xCB#8 0x5C#8 x = .bit3H), rfl⟩
theorem DecodesFromWindow.bit3L : DecodesFromWindow.Statement .bit3L :=
  fun _ x _ => ⟨(rfl : decodeWindow 0xCB#8 0x5D#8 x = .bit3L), rfl⟩
theorem DecodesFromWindow.bit3AtHl : DecodesFromWindow.Statement .bit3AtHl :=
  fun _ x _ => ⟨(rfl : decodeWindow 0xCB#8 0x5E#8 x = .bit3AtHl), rfl⟩
theorem DecodesFromWindow.bit3A : DecodesFromWindow.Statement .bit3A :=
  fun _ x _ => ⟨(rfl : decodeWindow 0xCB#8 0x5F#8 x = .bit3A), rfl⟩
theorem DecodesFromWindow.bit4B : DecodesFromWindow.Statement .bit4B :=
  fun _ x _ => ⟨(rfl : decodeWindow 0xCB#8 0x60#8 x = .bit4B), rfl⟩
theorem DecodesFromWindow.bit4C : DecodesFromWindow.Statement .bit4C :=
  fun _ x _ => ⟨(rfl : decodeWindow 0xCB#8 0x61#8 x = .bit4C), rfl⟩
theorem DecodesFromWindow.bit4D : DecodesFromWindow.Statement .bit4D :=
  fun _ x _ => ⟨(rfl : decodeWindow 0xCB#8 0x62#8 x = .bit4D), rfl⟩
theorem DecodesFromWindow.bit4E : DecodesFromWindow.Statement .bit4E :=
  fun _ x _ => ⟨(rfl : decodeWindow 0xCB#8 0x63#8 x = .bit4E), rfl⟩
theorem DecodesFromWindow.bit4H : DecodesFromWindow.Statement .bit4H :=
  fun _ x _ => ⟨(rfl : decodeWindow 0xCB#8 0x64#8 x = .bit4H), rfl⟩
theorem DecodesFromWindow.bit4L : DecodesFromWindow.Statement .bit4L :=
  fun _ x _ => ⟨(rfl : decodeWindow 0xCB#8 0x65#8 x = .bit4L), rfl⟩
theorem DecodesFromWindow.bit4AtHl : DecodesFromWindow.Statement .bit4AtHl :=
  fun _ x _ => ⟨(rfl : decodeWindow 0xCB#8 0x66#8 x = .bit4AtHl), rfl⟩
theorem DecodesFromWindow.bit4A : DecodesFromWindow.Statement .bit4A :=
  fun _ x _ => ⟨(rfl : decodeWindow 0xCB#8 0x67#8 x = .bit4A), rfl⟩
theorem DecodesFromWindow.bit5B : DecodesFromWindow.Statement .bit5B :=
  fun _ x _ => ⟨(rfl : decodeWindow 0xCB#8 0x68#8 x = .bit5B), rfl⟩
theorem DecodesFromWindow.bit5C : DecodesFromWindow.Statement .bit5C :=
  fun _ x _ => ⟨(rfl : decodeWindow 0xCB#8 0x69#8 x = .bit5C), rfl⟩
theorem DecodesFromWindow.bit5D : DecodesFromWindow.Statement .bit5D :=
  fun _ x _ => ⟨(rfl : decodeWindow 0xCB#8 0x6A#8 x = .bit5D), rfl⟩
theorem DecodesFromWindow.bit5E : DecodesFromWindow.Statement .bit5E :=
  fun _ x _ => ⟨(rfl : decodeWindow 0xCB#8 0x6B#8 x = .bit5E), rfl⟩
theorem DecodesFromWindow.bit5H : DecodesFromWindow.Statement .bit5H :=
  fun _ x _ => ⟨(rfl : decodeWindow 0xCB#8 0x6C#8 x = .bit5H), rfl⟩
theorem DecodesFromWindow.bit5L : DecodesFromWindow.Statement .bit5L :=
  fun _ x _ => ⟨(rfl : decodeWindow 0xCB#8 0x6D#8 x = .bit5L), rfl⟩
theorem DecodesFromWindow.bit5AtHl : DecodesFromWindow.Statement .bit5AtHl :=
  fun _ x _ => ⟨(rfl : decodeWindow 0xCB#8 0x6E#8 x = .bit5AtHl), rfl⟩
theorem DecodesFromWindow.bit5A : DecodesFromWindow.Statement .bit5A :=
  fun _ x _ => ⟨(rfl : decodeWindow 0xCB#8 0x6F#8 x = .bit5A), rfl⟩
theorem DecodesFromWindow.bit6B : DecodesFromWindow.Statement .bit6B :=
  fun _ x _ => ⟨(rfl : decodeWindow 0xCB#8 0x70#8 x = .bit6B), rfl⟩
theorem DecodesFromWindow.bit6C : DecodesFromWindow.Statement .bit6C :=
  fun _ x _ => ⟨(rfl : decodeWindow 0xCB#8 0x71#8 x = .bit6C), rfl⟩
theorem DecodesFromWindow.bit6D : DecodesFromWindow.Statement .bit6D :=
  fun _ x _ => ⟨(rfl : decodeWindow 0xCB#8 0x72#8 x = .bit6D), rfl⟩
theorem DecodesFromWindow.bit6E : DecodesFromWindow.Statement .bit6E :=
  fun _ x _ => ⟨(rfl : decodeWindow 0xCB#8 0x73#8 x = .bit6E), rfl⟩
theorem DecodesFromWindow.bit6H : DecodesFromWindow.Statement .bit6H :=
  fun _ x _ => ⟨(rfl : decodeWindow 0xCB#8 0x74#8 x = .bit6H), rfl⟩
theorem DecodesFromWindow.bit6L : DecodesFromWindow.Statement .bit6L :=
  fun _ x _ => ⟨(rfl : decodeWindow 0xCB#8 0x75#8 x = .bit6L), rfl⟩
theorem DecodesFromWindow.bit6AtHl : DecodesFromWindow.Statement .bit6AtHl :=
  fun _ x _ => ⟨(rfl : decodeWindow 0xCB#8 0x76#8 x = .bit6AtHl), rfl⟩
theorem DecodesFromWindow.bit6A : DecodesFromWindow.Statement .bit6A :=
  fun _ x _ => ⟨(rfl : decodeWindow 0xCB#8 0x77#8 x = .bit6A), rfl⟩
theorem DecodesFromWindow.bit7B : DecodesFromWindow.Statement .bit7B :=
  fun _ x _ => ⟨(rfl : decodeWindow 0xCB#8 0x78#8 x = .bit7B), rfl⟩
theorem DecodesFromWindow.bit7C : DecodesFromWindow.Statement .bit7C :=
  fun _ x _ => ⟨(rfl : decodeWindow 0xCB#8 0x79#8 x = .bit7C), rfl⟩
theorem DecodesFromWindow.bit7D : DecodesFromWindow.Statement .bit7D :=
  fun _ x _ => ⟨(rfl : decodeWindow 0xCB#8 0x7A#8 x = .bit7D), rfl⟩
theorem DecodesFromWindow.bit7E : DecodesFromWindow.Statement .bit7E :=
  fun _ x _ => ⟨(rfl : decodeWindow 0xCB#8 0x7B#8 x = .bit7E), rfl⟩
theorem DecodesFromWindow.bit7H : DecodesFromWindow.Statement .bit7H :=
  fun _ x _ => ⟨(rfl : decodeWindow 0xCB#8 0x7C#8 x = .bit7H), rfl⟩
theorem DecodesFromWindow.bit7L : DecodesFromWindow.Statement .bit7L :=
  fun _ x _ => ⟨(rfl : decodeWindow 0xCB#8 0x7D#8 x = .bit7L), rfl⟩
theorem DecodesFromWindow.bit7AtHl : DecodesFromWindow.Statement .bit7AtHl :=
  fun _ x _ => ⟨(rfl : decodeWindow 0xCB#8 0x7E#8 x = .bit7AtHl), rfl⟩
theorem DecodesFromWindow.bit7A : DecodesFromWindow.Statement .bit7A :=
  fun _ x _ => ⟨(rfl : decodeWindow 0xCB#8 0x7F#8 x = .bit7A), rfl⟩
theorem DecodesFromWindow.res0B : DecodesFromWindow.Statement .res0B :=
  fun _ x _ => ⟨(rfl : decodeWindow 0xCB#8 0x80#8 x = .res0B), rfl⟩
theorem DecodesFromWindow.res0C : DecodesFromWindow.Statement .res0C :=
  fun _ x _ => ⟨(rfl : decodeWindow 0xCB#8 0x81#8 x = .res0C), rfl⟩
theorem DecodesFromWindow.res0D : DecodesFromWindow.Statement .res0D :=
  fun _ x _ => ⟨(rfl : decodeWindow 0xCB#8 0x82#8 x = .res0D), rfl⟩
theorem DecodesFromWindow.res0E : DecodesFromWindow.Statement .res0E :=
  fun _ x _ => ⟨(rfl : decodeWindow 0xCB#8 0x83#8 x = .res0E), rfl⟩
theorem DecodesFromWindow.res0H : DecodesFromWindow.Statement .res0H :=
  fun _ x _ => ⟨(rfl : decodeWindow 0xCB#8 0x84#8 x = .res0H), rfl⟩
theorem DecodesFromWindow.res0L : DecodesFromWindow.Statement .res0L :=
  fun _ x _ => ⟨(rfl : decodeWindow 0xCB#8 0x85#8 x = .res0L), rfl⟩
theorem DecodesFromWindow.res0AtHl : DecodesFromWindow.Statement .res0AtHl :=
  fun _ x _ => ⟨(rfl : decodeWindow 0xCB#8 0x86#8 x = .res0AtHl), rfl⟩
theorem DecodesFromWindow.res0A : DecodesFromWindow.Statement .res0A :=
  fun _ x _ => ⟨(rfl : decodeWindow 0xCB#8 0x87#8 x = .res0A), rfl⟩
theorem DecodesFromWindow.res1B : DecodesFromWindow.Statement .res1B :=
  fun _ x _ => ⟨(rfl : decodeWindow 0xCB#8 0x88#8 x = .res1B), rfl⟩
theorem DecodesFromWindow.res1C : DecodesFromWindow.Statement .res1C :=
  fun _ x _ => ⟨(rfl : decodeWindow 0xCB#8 0x89#8 x = .res1C), rfl⟩
theorem DecodesFromWindow.res1D : DecodesFromWindow.Statement .res1D :=
  fun _ x _ => ⟨(rfl : decodeWindow 0xCB#8 0x8A#8 x = .res1D), rfl⟩
theorem DecodesFromWindow.res1E : DecodesFromWindow.Statement .res1E :=
  fun _ x _ => ⟨(rfl : decodeWindow 0xCB#8 0x8B#8 x = .res1E), rfl⟩
theorem DecodesFromWindow.res1H : DecodesFromWindow.Statement .res1H :=
  fun _ x _ => ⟨(rfl : decodeWindow 0xCB#8 0x8C#8 x = .res1H), rfl⟩
theorem DecodesFromWindow.res1L : DecodesFromWindow.Statement .res1L :=
  fun _ x _ => ⟨(rfl : decodeWindow 0xCB#8 0x8D#8 x = .res1L), rfl⟩
theorem DecodesFromWindow.res1AtHl : DecodesFromWindow.Statement .res1AtHl :=
  fun _ x _ => ⟨(rfl : decodeWindow 0xCB#8 0x8E#8 x = .res1AtHl), rfl⟩
theorem DecodesFromWindow.res1A : DecodesFromWindow.Statement .res1A :=
  fun _ x _ => ⟨(rfl : decodeWindow 0xCB#8 0x8F#8 x = .res1A), rfl⟩
theorem DecodesFromWindow.res2B : DecodesFromWindow.Statement .res2B :=
  fun _ x _ => ⟨(rfl : decodeWindow 0xCB#8 0x90#8 x = .res2B), rfl⟩
theorem DecodesFromWindow.res2C : DecodesFromWindow.Statement .res2C :=
  fun _ x _ => ⟨(rfl : decodeWindow 0xCB#8 0x91#8 x = .res2C), rfl⟩
theorem DecodesFromWindow.res2D : DecodesFromWindow.Statement .res2D :=
  fun _ x _ => ⟨(rfl : decodeWindow 0xCB#8 0x92#8 x = .res2D), rfl⟩
theorem DecodesFromWindow.res2E : DecodesFromWindow.Statement .res2E :=
  fun _ x _ => ⟨(rfl : decodeWindow 0xCB#8 0x93#8 x = .res2E), rfl⟩
theorem DecodesFromWindow.res2H : DecodesFromWindow.Statement .res2H :=
  fun _ x _ => ⟨(rfl : decodeWindow 0xCB#8 0x94#8 x = .res2H), rfl⟩
theorem DecodesFromWindow.res2L : DecodesFromWindow.Statement .res2L :=
  fun _ x _ => ⟨(rfl : decodeWindow 0xCB#8 0x95#8 x = .res2L), rfl⟩
theorem DecodesFromWindow.res2AtHl : DecodesFromWindow.Statement .res2AtHl :=
  fun _ x _ => ⟨(rfl : decodeWindow 0xCB#8 0x96#8 x = .res2AtHl), rfl⟩
theorem DecodesFromWindow.res2A : DecodesFromWindow.Statement .res2A :=
  fun _ x _ => ⟨(rfl : decodeWindow 0xCB#8 0x97#8 x = .res2A), rfl⟩
theorem DecodesFromWindow.res3B : DecodesFromWindow.Statement .res3B :=
  fun _ x _ => ⟨(rfl : decodeWindow 0xCB#8 0x98#8 x = .res3B), rfl⟩
theorem DecodesFromWindow.res3C : DecodesFromWindow.Statement .res3C :=
  fun _ x _ => ⟨(rfl : decodeWindow 0xCB#8 0x99#8 x = .res3C), rfl⟩
theorem DecodesFromWindow.res3D : DecodesFromWindow.Statement .res3D :=
  fun _ x _ => ⟨(rfl : decodeWindow 0xCB#8 0x9A#8 x = .res3D), rfl⟩
theorem DecodesFromWindow.res3E : DecodesFromWindow.Statement .res3E :=
  fun _ x _ => ⟨(rfl : decodeWindow 0xCB#8 0x9B#8 x = .res3E), rfl⟩
theorem DecodesFromWindow.res3H : DecodesFromWindow.Statement .res3H :=
  fun _ x _ => ⟨(rfl : decodeWindow 0xCB#8 0x9C#8 x = .res3H), rfl⟩
theorem DecodesFromWindow.res3L : DecodesFromWindow.Statement .res3L :=
  fun _ x _ => ⟨(rfl : decodeWindow 0xCB#8 0x9D#8 x = .res3L), rfl⟩
theorem DecodesFromWindow.res3AtHl : DecodesFromWindow.Statement .res3AtHl :=
  fun _ x _ => ⟨(rfl : decodeWindow 0xCB#8 0x9E#8 x = .res3AtHl), rfl⟩
theorem DecodesFromWindow.res3A : DecodesFromWindow.Statement .res3A :=
  fun _ x _ => ⟨(rfl : decodeWindow 0xCB#8 0x9F#8 x = .res3A), rfl⟩
theorem DecodesFromWindow.res4B : DecodesFromWindow.Statement .res4B :=
  fun _ x _ => ⟨(rfl : decodeWindow 0xCB#8 0xA0#8 x = .res4B), rfl⟩
theorem DecodesFromWindow.res4C : DecodesFromWindow.Statement .res4C :=
  fun _ x _ => ⟨(rfl : decodeWindow 0xCB#8 0xA1#8 x = .res4C), rfl⟩
theorem DecodesFromWindow.res4D : DecodesFromWindow.Statement .res4D :=
  fun _ x _ => ⟨(rfl : decodeWindow 0xCB#8 0xA2#8 x = .res4D), rfl⟩
theorem DecodesFromWindow.res4E : DecodesFromWindow.Statement .res4E :=
  fun _ x _ => ⟨(rfl : decodeWindow 0xCB#8 0xA3#8 x = .res4E), rfl⟩
theorem DecodesFromWindow.res4H : DecodesFromWindow.Statement .res4H :=
  fun _ x _ => ⟨(rfl : decodeWindow 0xCB#8 0xA4#8 x = .res4H), rfl⟩
theorem DecodesFromWindow.res4L : DecodesFromWindow.Statement .res4L :=
  fun _ x _ => ⟨(rfl : decodeWindow 0xCB#8 0xA5#8 x = .res4L), rfl⟩
theorem DecodesFromWindow.res4AtHl : DecodesFromWindow.Statement .res4AtHl :=
  fun _ x _ => ⟨(rfl : decodeWindow 0xCB#8 0xA6#8 x = .res4AtHl), rfl⟩
theorem DecodesFromWindow.res4A : DecodesFromWindow.Statement .res4A :=
  fun _ x _ => ⟨(rfl : decodeWindow 0xCB#8 0xA7#8 x = .res4A), rfl⟩
theorem DecodesFromWindow.res5B : DecodesFromWindow.Statement .res5B :=
  fun _ x _ => ⟨(rfl : decodeWindow 0xCB#8 0xA8#8 x = .res5B), rfl⟩
theorem DecodesFromWindow.res5C : DecodesFromWindow.Statement .res5C :=
  fun _ x _ => ⟨(rfl : decodeWindow 0xCB#8 0xA9#8 x = .res5C), rfl⟩
theorem DecodesFromWindow.res5D : DecodesFromWindow.Statement .res5D :=
  fun _ x _ => ⟨(rfl : decodeWindow 0xCB#8 0xAA#8 x = .res5D), rfl⟩
theorem DecodesFromWindow.res5E : DecodesFromWindow.Statement .res5E :=
  fun _ x _ => ⟨(rfl : decodeWindow 0xCB#8 0xAB#8 x = .res5E), rfl⟩
theorem DecodesFromWindow.res5H : DecodesFromWindow.Statement .res5H :=
  fun _ x _ => ⟨(rfl : decodeWindow 0xCB#8 0xAC#8 x = .res5H), rfl⟩
theorem DecodesFromWindow.res5L : DecodesFromWindow.Statement .res5L :=
  fun _ x _ => ⟨(rfl : decodeWindow 0xCB#8 0xAD#8 x = .res5L), rfl⟩
theorem DecodesFromWindow.res5AtHl : DecodesFromWindow.Statement .res5AtHl :=
  fun _ x _ => ⟨(rfl : decodeWindow 0xCB#8 0xAE#8 x = .res5AtHl), rfl⟩
theorem DecodesFromWindow.res5A : DecodesFromWindow.Statement .res5A :=
  fun _ x _ => ⟨(rfl : decodeWindow 0xCB#8 0xAF#8 x = .res5A), rfl⟩
theorem DecodesFromWindow.res6B : DecodesFromWindow.Statement .res6B :=
  fun _ x _ => ⟨(rfl : decodeWindow 0xCB#8 0xB0#8 x = .res6B), rfl⟩
theorem DecodesFromWindow.res6C : DecodesFromWindow.Statement .res6C :=
  fun _ x _ => ⟨(rfl : decodeWindow 0xCB#8 0xB1#8 x = .res6C), rfl⟩
theorem DecodesFromWindow.res6D : DecodesFromWindow.Statement .res6D :=
  fun _ x _ => ⟨(rfl : decodeWindow 0xCB#8 0xB2#8 x = .res6D), rfl⟩
theorem DecodesFromWindow.res6E : DecodesFromWindow.Statement .res6E :=
  fun _ x _ => ⟨(rfl : decodeWindow 0xCB#8 0xB3#8 x = .res6E), rfl⟩
theorem DecodesFromWindow.res6H : DecodesFromWindow.Statement .res6H :=
  fun _ x _ => ⟨(rfl : decodeWindow 0xCB#8 0xB4#8 x = .res6H), rfl⟩
theorem DecodesFromWindow.res6L : DecodesFromWindow.Statement .res6L :=
  fun _ x _ => ⟨(rfl : decodeWindow 0xCB#8 0xB5#8 x = .res6L), rfl⟩
theorem DecodesFromWindow.res6AtHl : DecodesFromWindow.Statement .res6AtHl :=
  fun _ x _ => ⟨(rfl : decodeWindow 0xCB#8 0xB6#8 x = .res6AtHl), rfl⟩
theorem DecodesFromWindow.res6A : DecodesFromWindow.Statement .res6A :=
  fun _ x _ => ⟨(rfl : decodeWindow 0xCB#8 0xB7#8 x = .res6A), rfl⟩
theorem DecodesFromWindow.res7B : DecodesFromWindow.Statement .res7B :=
  fun _ x _ => ⟨(rfl : decodeWindow 0xCB#8 0xB8#8 x = .res7B), rfl⟩
theorem DecodesFromWindow.res7C : DecodesFromWindow.Statement .res7C :=
  fun _ x _ => ⟨(rfl : decodeWindow 0xCB#8 0xB9#8 x = .res7C), rfl⟩
theorem DecodesFromWindow.res7D : DecodesFromWindow.Statement .res7D :=
  fun _ x _ => ⟨(rfl : decodeWindow 0xCB#8 0xBA#8 x = .res7D), rfl⟩
theorem DecodesFromWindow.res7E : DecodesFromWindow.Statement .res7E :=
  fun _ x _ => ⟨(rfl : decodeWindow 0xCB#8 0xBB#8 x = .res7E), rfl⟩
theorem DecodesFromWindow.res7H : DecodesFromWindow.Statement .res7H :=
  fun _ x _ => ⟨(rfl : decodeWindow 0xCB#8 0xBC#8 x = .res7H), rfl⟩
theorem DecodesFromWindow.res7L : DecodesFromWindow.Statement .res7L :=
  fun _ x _ => ⟨(rfl : decodeWindow 0xCB#8 0xBD#8 x = .res7L), rfl⟩
theorem DecodesFromWindow.res7AtHl : DecodesFromWindow.Statement .res7AtHl :=
  fun _ x _ => ⟨(rfl : decodeWindow 0xCB#8 0xBE#8 x = .res7AtHl), rfl⟩
theorem DecodesFromWindow.res7A : DecodesFromWindow.Statement .res7A :=
  fun _ x _ => ⟨(rfl : decodeWindow 0xCB#8 0xBF#8 x = .res7A), rfl⟩
theorem DecodesFromWindow.set0B : DecodesFromWindow.Statement .set0B :=
  fun _ x _ => ⟨(rfl : decodeWindow 0xCB#8 0xC0#8 x = .set0B), rfl⟩
theorem DecodesFromWindow.set0C : DecodesFromWindow.Statement .set0C :=
  fun _ x _ => ⟨(rfl : decodeWindow 0xCB#8 0xC1#8 x = .set0C), rfl⟩
theorem DecodesFromWindow.set0D : DecodesFromWindow.Statement .set0D :=
  fun _ x _ => ⟨(rfl : decodeWindow 0xCB#8 0xC2#8 x = .set0D), rfl⟩
theorem DecodesFromWindow.set0E : DecodesFromWindow.Statement .set0E :=
  fun _ x _ => ⟨(rfl : decodeWindow 0xCB#8 0xC3#8 x = .set0E), rfl⟩
theorem DecodesFromWindow.set0H : DecodesFromWindow.Statement .set0H :=
  fun _ x _ => ⟨(rfl : decodeWindow 0xCB#8 0xC4#8 x = .set0H), rfl⟩
theorem DecodesFromWindow.set0L : DecodesFromWindow.Statement .set0L :=
  fun _ x _ => ⟨(rfl : decodeWindow 0xCB#8 0xC5#8 x = .set0L), rfl⟩
theorem DecodesFromWindow.set0AtHl : DecodesFromWindow.Statement .set0AtHl :=
  fun _ x _ => ⟨(rfl : decodeWindow 0xCB#8 0xC6#8 x = .set0AtHl), rfl⟩
theorem DecodesFromWindow.set0A : DecodesFromWindow.Statement .set0A :=
  fun _ x _ => ⟨(rfl : decodeWindow 0xCB#8 0xC7#8 x = .set0A), rfl⟩
theorem DecodesFromWindow.set1B : DecodesFromWindow.Statement .set1B :=
  fun _ x _ => ⟨(rfl : decodeWindow 0xCB#8 0xC8#8 x = .set1B), rfl⟩
theorem DecodesFromWindow.set1C : DecodesFromWindow.Statement .set1C :=
  fun _ x _ => ⟨(rfl : decodeWindow 0xCB#8 0xC9#8 x = .set1C), rfl⟩
theorem DecodesFromWindow.set1D : DecodesFromWindow.Statement .set1D :=
  fun _ x _ => ⟨(rfl : decodeWindow 0xCB#8 0xCA#8 x = .set1D), rfl⟩
theorem DecodesFromWindow.set1E : DecodesFromWindow.Statement .set1E :=
  fun _ x _ => ⟨(rfl : decodeWindow 0xCB#8 0xCB#8 x = .set1E), rfl⟩
theorem DecodesFromWindow.set1H : DecodesFromWindow.Statement .set1H :=
  fun _ x _ => ⟨(rfl : decodeWindow 0xCB#8 0xCC#8 x = .set1H), rfl⟩
theorem DecodesFromWindow.set1L : DecodesFromWindow.Statement .set1L :=
  fun _ x _ => ⟨(rfl : decodeWindow 0xCB#8 0xCD#8 x = .set1L), rfl⟩
theorem DecodesFromWindow.set1AtHl : DecodesFromWindow.Statement .set1AtHl :=
  fun _ x _ => ⟨(rfl : decodeWindow 0xCB#8 0xCE#8 x = .set1AtHl), rfl⟩
theorem DecodesFromWindow.set1A : DecodesFromWindow.Statement .set1A :=
  fun _ x _ => ⟨(rfl : decodeWindow 0xCB#8 0xCF#8 x = .set1A), rfl⟩
theorem DecodesFromWindow.set2B : DecodesFromWindow.Statement .set2B :=
  fun _ x _ => ⟨(rfl : decodeWindow 0xCB#8 0xD0#8 x = .set2B), rfl⟩
theorem DecodesFromWindow.set2C : DecodesFromWindow.Statement .set2C :=
  fun _ x _ => ⟨(rfl : decodeWindow 0xCB#8 0xD1#8 x = .set2C), rfl⟩
theorem DecodesFromWindow.set2D : DecodesFromWindow.Statement .set2D :=
  fun _ x _ => ⟨(rfl : decodeWindow 0xCB#8 0xD2#8 x = .set2D), rfl⟩
theorem DecodesFromWindow.set2E : DecodesFromWindow.Statement .set2E :=
  fun _ x _ => ⟨(rfl : decodeWindow 0xCB#8 0xD3#8 x = .set2E), rfl⟩
theorem DecodesFromWindow.set2H : DecodesFromWindow.Statement .set2H :=
  fun _ x _ => ⟨(rfl : decodeWindow 0xCB#8 0xD4#8 x = .set2H), rfl⟩
theorem DecodesFromWindow.set2L : DecodesFromWindow.Statement .set2L :=
  fun _ x _ => ⟨(rfl : decodeWindow 0xCB#8 0xD5#8 x = .set2L), rfl⟩
theorem DecodesFromWindow.set2AtHl : DecodesFromWindow.Statement .set2AtHl :=
  fun _ x _ => ⟨(rfl : decodeWindow 0xCB#8 0xD6#8 x = .set2AtHl), rfl⟩
theorem DecodesFromWindow.set2A : DecodesFromWindow.Statement .set2A :=
  fun _ x _ => ⟨(rfl : decodeWindow 0xCB#8 0xD7#8 x = .set2A), rfl⟩
theorem DecodesFromWindow.set3B : DecodesFromWindow.Statement .set3B :=
  fun _ x _ => ⟨(rfl : decodeWindow 0xCB#8 0xD8#8 x = .set3B), rfl⟩
theorem DecodesFromWindow.set3C : DecodesFromWindow.Statement .set3C :=
  fun _ x _ => ⟨(rfl : decodeWindow 0xCB#8 0xD9#8 x = .set3C), rfl⟩
theorem DecodesFromWindow.set3D : DecodesFromWindow.Statement .set3D :=
  fun _ x _ => ⟨(rfl : decodeWindow 0xCB#8 0xDA#8 x = .set3D), rfl⟩
theorem DecodesFromWindow.set3E : DecodesFromWindow.Statement .set3E :=
  fun _ x _ => ⟨(rfl : decodeWindow 0xCB#8 0xDB#8 x = .set3E), rfl⟩
theorem DecodesFromWindow.set3H : DecodesFromWindow.Statement .set3H :=
  fun _ x _ => ⟨(rfl : decodeWindow 0xCB#8 0xDC#8 x = .set3H), rfl⟩
theorem DecodesFromWindow.set3L : DecodesFromWindow.Statement .set3L :=
  fun _ x _ => ⟨(rfl : decodeWindow 0xCB#8 0xDD#8 x = .set3L), rfl⟩
theorem DecodesFromWindow.set3AtHl : DecodesFromWindow.Statement .set3AtHl :=
  fun _ x _ => ⟨(rfl : decodeWindow 0xCB#8 0xDE#8 x = .set3AtHl), rfl⟩
theorem DecodesFromWindow.set3A : DecodesFromWindow.Statement .set3A :=
  fun _ x _ => ⟨(rfl : decodeWindow 0xCB#8 0xDF#8 x = .set3A), rfl⟩
theorem DecodesFromWindow.set4B : DecodesFromWindow.Statement .set4B :=
  fun _ x _ => ⟨(rfl : decodeWindow 0xCB#8 0xE0#8 x = .set4B), rfl⟩
theorem DecodesFromWindow.set4C : DecodesFromWindow.Statement .set4C :=
  fun _ x _ => ⟨(rfl : decodeWindow 0xCB#8 0xE1#8 x = .set4C), rfl⟩
theorem DecodesFromWindow.set4D : DecodesFromWindow.Statement .set4D :=
  fun _ x _ => ⟨(rfl : decodeWindow 0xCB#8 0xE2#8 x = .set4D), rfl⟩
theorem DecodesFromWindow.set4E : DecodesFromWindow.Statement .set4E :=
  fun _ x _ => ⟨(rfl : decodeWindow 0xCB#8 0xE3#8 x = .set4E), rfl⟩
theorem DecodesFromWindow.set4H : DecodesFromWindow.Statement .set4H :=
  fun _ x _ => ⟨(rfl : decodeWindow 0xCB#8 0xE4#8 x = .set4H), rfl⟩
theorem DecodesFromWindow.set4L : DecodesFromWindow.Statement .set4L :=
  fun _ x _ => ⟨(rfl : decodeWindow 0xCB#8 0xE5#8 x = .set4L), rfl⟩
theorem DecodesFromWindow.set4AtHl : DecodesFromWindow.Statement .set4AtHl :=
  fun _ x _ => ⟨(rfl : decodeWindow 0xCB#8 0xE6#8 x = .set4AtHl), rfl⟩
theorem DecodesFromWindow.set4A : DecodesFromWindow.Statement .set4A :=
  fun _ x _ => ⟨(rfl : decodeWindow 0xCB#8 0xE7#8 x = .set4A), rfl⟩
theorem DecodesFromWindow.set5B : DecodesFromWindow.Statement .set5B :=
  fun _ x _ => ⟨(rfl : decodeWindow 0xCB#8 0xE8#8 x = .set5B), rfl⟩
theorem DecodesFromWindow.set5C : DecodesFromWindow.Statement .set5C :=
  fun _ x _ => ⟨(rfl : decodeWindow 0xCB#8 0xE9#8 x = .set5C), rfl⟩
theorem DecodesFromWindow.set5D : DecodesFromWindow.Statement .set5D :=
  fun _ x _ => ⟨(rfl : decodeWindow 0xCB#8 0xEA#8 x = .set5D), rfl⟩
theorem DecodesFromWindow.set5E : DecodesFromWindow.Statement .set5E :=
  fun _ x _ => ⟨(rfl : decodeWindow 0xCB#8 0xEB#8 x = .set5E), rfl⟩
theorem DecodesFromWindow.set5H : DecodesFromWindow.Statement .set5H :=
  fun _ x _ => ⟨(rfl : decodeWindow 0xCB#8 0xEC#8 x = .set5H), rfl⟩
theorem DecodesFromWindow.set5L : DecodesFromWindow.Statement .set5L :=
  fun _ x _ => ⟨(rfl : decodeWindow 0xCB#8 0xED#8 x = .set5L), rfl⟩
theorem DecodesFromWindow.set5AtHl : DecodesFromWindow.Statement .set5AtHl :=
  fun _ x _ => ⟨(rfl : decodeWindow 0xCB#8 0xEE#8 x = .set5AtHl), rfl⟩
theorem DecodesFromWindow.set5A : DecodesFromWindow.Statement .set5A :=
  fun _ x _ => ⟨(rfl : decodeWindow 0xCB#8 0xEF#8 x = .set5A), rfl⟩
theorem DecodesFromWindow.set6B : DecodesFromWindow.Statement .set6B :=
  fun _ x _ => ⟨(rfl : decodeWindow 0xCB#8 0xF0#8 x = .set6B), rfl⟩
theorem DecodesFromWindow.set6C : DecodesFromWindow.Statement .set6C :=
  fun _ x _ => ⟨(rfl : decodeWindow 0xCB#8 0xF1#8 x = .set6C), rfl⟩
theorem DecodesFromWindow.set6D : DecodesFromWindow.Statement .set6D :=
  fun _ x _ => ⟨(rfl : decodeWindow 0xCB#8 0xF2#8 x = .set6D), rfl⟩
theorem DecodesFromWindow.set6E : DecodesFromWindow.Statement .set6E :=
  fun _ x _ => ⟨(rfl : decodeWindow 0xCB#8 0xF3#8 x = .set6E), rfl⟩
theorem DecodesFromWindow.set6H : DecodesFromWindow.Statement .set6H :=
  fun _ x _ => ⟨(rfl : decodeWindow 0xCB#8 0xF4#8 x = .set6H), rfl⟩
theorem DecodesFromWindow.set6L : DecodesFromWindow.Statement .set6L :=
  fun _ x _ => ⟨(rfl : decodeWindow 0xCB#8 0xF5#8 x = .set6L), rfl⟩
theorem DecodesFromWindow.set6AtHl : DecodesFromWindow.Statement .set6AtHl :=
  fun _ x _ => ⟨(rfl : decodeWindow 0xCB#8 0xF6#8 x = .set6AtHl), rfl⟩
theorem DecodesFromWindow.set6A : DecodesFromWindow.Statement .set6A :=
  fun _ x _ => ⟨(rfl : decodeWindow 0xCB#8 0xF7#8 x = .set6A), rfl⟩
theorem DecodesFromWindow.set7B : DecodesFromWindow.Statement .set7B :=
  fun _ x _ => ⟨(rfl : decodeWindow 0xCB#8 0xF8#8 x = .set7B), rfl⟩
theorem DecodesFromWindow.set7C : DecodesFromWindow.Statement .set7C :=
  fun _ x _ => ⟨(rfl : decodeWindow 0xCB#8 0xF9#8 x = .set7C), rfl⟩
theorem DecodesFromWindow.set7D : DecodesFromWindow.Statement .set7D :=
  fun _ x _ => ⟨(rfl : decodeWindow 0xCB#8 0xFA#8 x = .set7D), rfl⟩
theorem DecodesFromWindow.set7E : DecodesFromWindow.Statement .set7E :=
  fun _ x _ => ⟨(rfl : decodeWindow 0xCB#8 0xFB#8 x = .set7E), rfl⟩
theorem DecodesFromWindow.set7H : DecodesFromWindow.Statement .set7H :=
  fun _ x _ => ⟨(rfl : decodeWindow 0xCB#8 0xFC#8 x = .set7H), rfl⟩
theorem DecodesFromWindow.set7L : DecodesFromWindow.Statement .set7L :=
  fun _ x _ => ⟨(rfl : decodeWindow 0xCB#8 0xFD#8 x = .set7L), rfl⟩
theorem DecodesFromWindow.set7AtHl : DecodesFromWindow.Statement .set7AtHl :=
  fun _ x _ => ⟨(rfl : decodeWindow 0xCB#8 0xFE#8 x = .set7AtHl), rfl⟩
theorem DecodesFromWindow.set7A : DecodesFromWindow.Statement .set7A :=
  fun _ x _ => ⟨(rfl : decodeWindow 0xCB#8 0xFF#8 x = .set7A), rfl⟩

end Sys2Proof.Laws
end

