-- ==== Sys2Proof/Laws/Quiet.lean ====
section
/-! SUPPORT. What a plain instruction leaves alone: the interrupt state, the run mode and the fault, with the memory's
canonical form and F's low nibble kept. The instructions that do touch them are named once. -/

namespace Sys2Proof.Machine

/-- A plain instruction has run: the state beside the registers, PC, the cycles and memory is untouched, and memory and F
are as the invariant wants them. -/
structure Quiet (s t : State) : Prop where
  ime : t.ime = s.ime
  eiPending : t.eiPending = s.eiPending
  mode : t.mode = s.mode
  fault : t.fault = s.fault
  haltBug : t.haltBug = false
  memory : Memory.wf s.mem = true → Memory.wf t.mem = true
  lowNibble : s.f &&& 0x0F#8 = 0x00#8 → t.f &&& 0x0F#8 = 0x00#8

/-- The instructions that write IME, ei_pending, the run mode, the halt bug or the fault. -/
def ControlsCore (i : Instr) : Prop :=
  i = .di ∨ i = .ei ∨ i = .reti ∨ i = .halt ∨ (∃ n8 : Byte, i = .stop n8) ∨ ∃ b : Byte, i.encode = [b] ∧ b ∈ illegalBytes

theorem wf_setOperand {s : State} (o : Operand8) (v : Byte) (h : Memory.wf s.mem = true) :
    Memory.wf (s.setOperand o v).mem = true := by
  cases o with
  | reg r => simpa [State.setOperand] using h
  | atHl => exact Memory.wf_writeByte _ _ h

theorem f_setOperand (s : State) (o : Operand8) (v : Byte) : (s.setOperand o v).f = s.f := by
  cases o <;> simp [State.setOperand]

theorem Quiet.fetched (s : State) (n cost : Nat) : Quiet s ((s.fetched (n + 1)).addCycles cost) where
  ime := by simp
  eiPending := by simp
  mode := by simp
  fault := by simp
  haltBug := by simp
  memory h := by simpa using h
  lowNibble h := by simpa using h

theorem postModify_f (s : State) (m : AddrMode) : (s.postModify m).f = s.f := by cases m <;> rfl

/-- Setting PC at the end of a quiet instruction keeps it quiet. -/
theorem Quiet.setPc {s t : State} (h : Quiet s t) (v : Word16) : Quiet s { t with pc := v } :=
  ⟨h.ime, h.eiPending, h.mode, h.fault, h.haltBug, h.memory, h.lowNibble⟩

/-- A push and a jump. -/
theorem Quiet.pushed (s : State) (n : Nat) (cost : Nat) (v target : Word16) :
    Quiet s (({ (s.fetched (n + 1)).push16 v with pc := target } : State).addCycles cost) where
  ime := by simp
  eiPending := by simp
  mode := by simp
  fault := by simp
  haltBug := by simp
  memory h := Memory.wf_push16 v (by simpa using h)
  lowNibble h := by
    have : (s.fetched (n + 1)).f &&& 0x0F#8 = 0x00#8 := by simpa using h
    exact this

/-- A pop into PC. -/
theorem Quiet.popped (s : State) (n : Nat) (cost : Nat) :
    Quiet s (({ (s.fetched (n + 1)).pop16.2 with pc := (s.fetched (n + 1)).pop16.1 } : State).addCycles cost) where
  ime := by simp
  eiPending := by simp
  mode := by simp
  fault := by simp
  haltBug := by simp
  memory h := by simpa using h
  lowNibble h := by
    have : (s.fetched (n + 1)).f &&& 0x0F#8 = 0x00#8 := by simpa using h
    exact this

/-! ## The operations -/

theorem noOperation_quiet (s : State) :
     ∃ t : State, noOperation s = .next t ∧ Quiet s t := ⟨_, rfl, Quiet.fetched s 0 4⟩

theorem loadPairImm_quiet (p : Pair) (n16 : Word16) (s : State) :
     ∃ t : State, loadPairImm p n16 s = .next t ∧ Quiet s t := 
  ⟨_, rfl, ⟨by simp, by simp, by simp, by simp, by simp, fun h => by simpa using h, fun h => by simpa using h⟩⟩

theorem loadImm_quiet (r : Reg8) (n8 : Byte) (s : State) :
     ∃ t : State, loadImm r n8 s = .next t ∧ Quiet s t := 
  ⟨_, rfl, ⟨by simp, by simp, by simp, by simp, by simp, fun h => by simpa using h, fun h => by simpa using h⟩⟩

theorem storeImm_quiet (n8 : Byte) (s : State) :
     ∃ t : State, storeImm n8 s = .next t ∧ Quiet s t := 
  ⟨_, rfl, ⟨by simp, by simp, by simp, by simp, by simp, fun h => by simpa using Memory.wf_writeByte _ _ (by simpa using h), fun h => by simpa using h⟩⟩

theorem storeAccumulator_quiet (m : AddrMode) (s : State) :
     ∃ t : State, storeAccumulator m s = .next t ∧ Quiet s t := by
  cases m <;> exact ⟨_, rfl, by simp [State.postModify], by simp [State.postModify], by simp [State.postModify],
    by simp [State.postModify], by simp [State.postModify, modeLength],
    fun h => by simpa [State.postModify] using Memory.wf_writeByte _ _ (by simpa using h),
    fun h => by simpa [postModify_f] using h⟩

theorem loadAccumulator_quiet (m : AddrMode) (s : State) :
     ∃ t : State, loadAccumulator m s = .next t ∧ Quiet s t := by
  cases m <;> exact ⟨_, rfl, by simp [State.postModify], by simp [State.postModify], by simp [State.postModify],
    by simp [State.postModify], by simp [State.postModify, modeLength],
    fun h => by simpa [State.postModify] using h,
    fun h => by simpa [postModify_f] using h⟩

theorem moveReg_quiet (dst src : Reg8) (s : State) :
     ∃ t : State, moveReg dst src s = .next t ∧ Quiet s t := 
  ⟨_, rfl, ⟨by simp, by simp, by simp, by simp, by simp, fun h => by simpa using h, fun h => by simpa using h⟩⟩

theorem loadIndirect_quiet (r : Reg8) (s : State) :
     ∃ t : State, loadIndirect r s = .next t ∧ Quiet s t := 
  ⟨_, rfl, ⟨by simp, by simp, by simp, by simp, by simp, fun h => by simpa using h, fun h => by simpa using h⟩⟩

theorem storeIndirect_quiet (r : Reg8) (s : State) :
     ∃ t : State, storeIndirect r s = .next t ∧ Quiet s t := 
  ⟨_, rfl, ⟨by simp, by simp, by simp, by simp, by simp, fun h => by simpa using Memory.wf_writeByte _ _ (by simpa using h), fun h => by simpa using h⟩⟩

theorem storeSp_quiet (a16 : Word16) (s : State) :
     ∃ t : State, storeSp a16 s = .next t ∧ Quiet s t := 
  ⟨_, rfl, ⟨by simp, by simp, by simp, by simp, by simp, fun h => by simpa using Memory.wf_writeWord _ _ (by simpa using h), fun h => by simpa using h⟩⟩

theorem loadSpHl_quiet (s : State) :
     ∃ t : State, loadSpHl s = .next t ∧ Quiet s t := 
  ⟨_, rfl, ⟨by simp, by simp, by simp, by simp, by simp, fun h => by simpa using h, fun h => (by simpa using h : (s.fetched 1).f &&& 0x0F#8 = 0x00#8)⟩⟩

theorem accumulate_quiet (op : AluOp) (src : Source) (s : State) :
     ∃ t : State, accumulate op src s = .next t ∧ Quiet s t := by
  cases src <;> exact ⟨_, rfl, by simp [sourceLength], by simp [sourceLength], by simp [sourceLength], by simp [sourceLength], by simp [sourceLength], fun h => by simpa using h, fun _ => by simp⟩

theorem incOperand_quiet (o : Operand8) (s : State) :
     ∃ t : State, incOperand o s = .next t ∧ Quiet s t := 
  ⟨_, rfl, ⟨by cases o <;> simp [State.setOperand], by cases o <;> simp [State.setOperand], by cases o <;> simp [State.setOperand], by cases o <;> simp [State.setOperand], by cases o <;> simp [State.setOperand], fun h => by simpa using wf_setOperand o _ (by simpa using h), fun _ => by simp⟩⟩

theorem decOperand_quiet (o : Operand8) (s : State) :
     ∃ t : State, decOperand o s = .next t ∧ Quiet s t := 
  ⟨_, rfl, ⟨by cases o <;> simp [State.setOperand], by cases o <;> simp [State.setOperand], by cases o <;> simp [State.setOperand], by cases o <;> simp [State.setOperand], by cases o <;> simp [State.setOperand], fun h => by simpa using wf_setOperand o _ (by simpa using h), fun _ => by simp⟩⟩

theorem addHl_quiet (p : Pair) (s : State) :
     ∃ t : State, addHl p s = .next t ∧ Quiet s t := 
  ⟨_, rfl, ⟨by simp, by simp, by simp, by simp, by simp, fun h => by simpa using h, fun _ => by simp⟩⟩

theorem incPair_quiet (p : Pair) (s : State) :
     ∃ t : State, incPair p s = .next t ∧ Quiet s t := 
  ⟨_, rfl, ⟨by simp, by simp, by simp, by simp, by simp, fun h => by simpa using h, fun h => by simpa using h⟩⟩

theorem decPair_quiet (p : Pair) (s : State) :
     ∃ t : State, decPair p s = .next t ∧ Quiet s t := 
  ⟨_, rfl, ⟨by simp, by simp, by simp, by simp, by simp, fun h => by simpa using h, fun h => by simpa using h⟩⟩

theorem addSpImm_quiet (e8 : Byte) (s : State) :
     ∃ t : State, addSpImm e8 s = .next t ∧ Quiet s t := 
  ⟨_, rfl, ⟨by simp, by simp, by simp, by simp, by simp, fun h => by simpa using h, fun _ => by simp⟩⟩

theorem loadHlSpImm_quiet (e8 : Byte) (s : State) :
     ∃ t : State, loadHlSpImm e8 s = .next t ∧ Quiet s t := 
  ⟨_, rfl, ⟨by simp, by simp, by simp, by simp, by simp, fun h => by simpa using h, fun _ => by simp⟩⟩

theorem pushPair_quiet (q : StackPair) (s : State) :
     ∃ t : State, pushPair q s = .next t ∧ Quiet s t := 
  ⟨_, rfl, ⟨by simp, by simp, by simp, by simp, by simp, fun h => by simpa using Memory.wf_push16 _ (by simpa using h), fun h => by simpa using h⟩⟩

theorem popPair_quiet (q : StackPair) (s : State) :
     ∃ t : State, popPair q s = .next t ∧ Quiet s t := by
  refine ⟨_, rfl, by simp, by simp, by simp, by simp, by simp, fun h => by simpa using h, fun h => ?_⟩
  have hf : (s.fetched 1).f &&& 0x0F#8 = 0x00#8 := by simpa using h
  cases q with
  | af =>
    change loByte ((s.fetched 1).pop16.1 &&& 0xFFF0#16) &&& 0x0F#8 = 0x00#8
    rw [loByte_and, BitVec.and_assoc]
    exact BitVec.and_zero
  | bc => exact hf
  | de => exact hf
  | hl => exact hf

theorem jump_quiet (a16 : Word16) (s : State) :
     ∃ t : State, jump a16 s = .next t ∧ Quiet s t := ⟨_, rfl, (Quiet.fetched s 2 16).setPc _⟩

theorem jumpIf_quiet (cc : Cond) (a16 : Word16) (s : State) :
     ∃ t : State, jumpIf cc a16 s = .next t ∧ Quiet s t := by
  unfold jumpIf
  dsimp only
  split
  · exact ⟨_, rfl, (Quiet.fetched s 2 16).setPc _⟩
  · exact ⟨_, rfl, Quiet.fetched s _ _⟩

theorem jumpHl_quiet (s : State) :
     ∃ t : State, jumpHl s = .next t ∧ Quiet s t := ⟨_, rfl, (Quiet.fetched s 0 4).setPc _⟩

theorem jumpRel_quiet (e8 : Byte) (s : State) :
     ∃ t : State, jumpRel e8 s = .next t ∧ Quiet s t := ⟨_, rfl, (Quiet.fetched s 1 12).setPc _⟩

theorem jumpRelIf_quiet (cc : Cond) (e8 : Byte) (s : State) :
     ∃ t : State, jumpRelIf cc e8 s = .next t ∧ Quiet s t := by
  unfold jumpRelIf
  dsimp only
  split
  · exact ⟨_, rfl, (Quiet.fetched s 1 12).setPc _⟩
  · exact ⟨_, rfl, Quiet.fetched s _ _⟩

theorem call_quiet (a16 : Word16) (s : State) :
     ∃ t : State, call a16 s = .next t ∧ Quiet s t := ⟨_, rfl, Quiet.pushed s 2 24 _ _⟩

theorem callIf_quiet (cc : Cond) (a16 : Word16) (s : State) :
     ∃ t : State, callIf cc a16 s = .next t ∧ Quiet s t := by
  unfold callIf
  dsimp only
  split
  · exact ⟨_, rfl, Quiet.pushed s 2 24 _ _⟩
  · exact ⟨_, rfl, Quiet.fetched s _ _⟩

theorem ret_quiet (s : State) :
     ∃ t : State, ret s = .next t ∧ Quiet s t := ⟨_, rfl, Quiet.popped s 0 16⟩

theorem retIf_quiet (cc : Cond) (s : State) :
     ∃ t : State, retIf cc s = .next t ∧ Quiet s t := by
  unfold retIf
  dsimp only
  split
  · exact ⟨_, rfl, Quiet.popped s 0 20⟩
  · exact ⟨_, rfl, Quiet.fetched s _ _⟩

theorem restart_quiet (n : Byte) (s : State) :
     ∃ t : State, restart n s = .next t ∧ Quiet s t := ⟨_, rfl, Quiet.pushed s 0 16 _ _⟩

theorem rotateA_quiet (op : RotOp) (s : State) :
     ∃ t : State, rotateA op s = .next t ∧ Quiet s t := 
  ⟨_, rfl, ⟨by simp, by simp, by simp, by simp, by simp, fun h => by simpa using h, fun _ => by simp⟩⟩

theorem decimalAdjust_quiet (s : State) :
     ∃ t : State, decimalAdjust s = .next t ∧ Quiet s t := 
  ⟨_, rfl, ⟨by simp, by simp, by simp, by simp, by simp, fun h => by simpa using h, fun _ => by simp⟩⟩

theorem complementA_quiet (s : State) :
     ∃ t : State, complementA s = .next t ∧ Quiet s t := 
  ⟨_, rfl, ⟨by simp, by simp, by simp, by simp, by simp, fun h => by simpa using h, fun _ => by simp⟩⟩

theorem setCarry_quiet (s : State) :
     ∃ t : State, setCarry s = .next t ∧ Quiet s t := 
  ⟨_, rfl, ⟨by simp, by simp, by simp, by simp, by simp, fun h => by simpa using h, fun _ => by simp⟩⟩

theorem complementCarry_quiet (s : State) :
     ∃ t : State, complementCarry s = .next t ∧ Quiet s t := 
  ⟨_, rfl, ⟨by simp, by simp, by simp, by simp, by simp, fun h => by simpa using h, fun _ => by simp⟩⟩

theorem rotateOperand_quiet (op : RotOp) (o : Operand8) (s : State) :
     ∃ t : State, rotateOperand op o s = .next t ∧ Quiet s t := 
  ⟨_, rfl, ⟨by cases o <;> simp [State.setOperand], by cases o <;> simp [State.setOperand], by cases o <;> simp [State.setOperand], by cases o <;> simp [State.setOperand], by cases o <;> simp [State.setOperand], fun h => by simpa using wf_setOperand o _ (by simpa using h), fun _ => by simp⟩⟩

theorem testBit_quiet (b : BitVec 3) (o : Operand8) (s : State) :
     ∃ t : State, testBit b o s = .next t ∧ Quiet s t := 
  ⟨_, rfl, ⟨by simp, by simp, by simp, by simp, by simp, fun h => by simpa using h, fun _ => by simp⟩⟩

theorem resetBit_quiet (b : BitVec 3) (o : Operand8) (s : State) :
     ∃ t : State, resetBit b o s = .next t ∧ Quiet s t := 
  ⟨_, rfl, ⟨by cases o <;> simp [State.setOperand], by cases o <;> simp [State.setOperand], by cases o <;> simp [State.setOperand], by cases o <;> simp [State.setOperand], by cases o <;> simp [State.setOperand], fun h => by simpa using wf_setOperand o _ (by simpa using h), fun h => by simpa [f_setOperand] using h⟩⟩

theorem setBit_quiet (b : BitVec 3) (o : Operand8) (s : State) :
     ∃ t : State, setBit b o s = .next t ∧ Quiet s t := 
  ⟨_, rfl, ⟨by cases o <;> simp [State.setOperand], by cases o <;> simp [State.setOperand], by cases o <;> simp [State.setOperand], by cases o <;> simp [State.setOperand], by cases o <;> simp [State.setOperand], fun h => by simpa using wf_setOperand o _ (by simpa using h), fun h => by simpa [f_setOperand] using h⟩⟩

theorem runCb_quiet (op2 : Byte) (s : State) : ∃ t : State, runCb op2 s = .next t ∧ Quiet s t := by
  unfold runCb
  split
  · exact rotateOperand_quiet _ _ _
  · exact testBit_quiet _ _ _
  · exact resetBit_quiet _ _ _
  · exact setBit_quiet _ _ _

/-! ## Every instruction -/

/-- Every instruction but the named ones is quiet. -/
theorem exec_quiet (i : Instr) (s : State) : (∃ t : State, exec i s = .next t ∧ Quiet s t) ∨ ControlsCore i :=
  match i with
  | .ldBcN16 n16 => .inl (loadPairImm_quiet .bc n16 s)
  | .ldBN8 n8 => .inl (loadImm_quiet .b n8 s)
  | .ldAtA16Sp a16 => .inl (storeSp_quiet a16 s)
  | .ldCN8 n8 => .inl (loadImm_quiet .c n8 s)
  | .stop n8 => .inr (.inr (.inr (.inr (.inr (.inl ⟨n8, rfl⟩)))))
  | .ldDeN16 n16 => .inl (loadPairImm_quiet .de n16 s)
  | .ldDN8 n8 => .inl (loadImm_quiet .d n8 s)
  | .jrE8 e8 => .inl (jumpRel_quiet e8 s)
  | .ldEN8 n8 => .inl (loadImm_quiet .e n8 s)
  | .jrNzE8 e8 => .inl (jumpRelIf_quiet .nz e8 s)
  | .ldHlN16 n16 => .inl (loadPairImm_quiet .hl n16 s)
  | .ldHN8 n8 => .inl (loadImm_quiet .h n8 s)
  | .jrZE8 e8 => .inl (jumpRelIf_quiet .z e8 s)
  | .ldLN8 n8 => .inl (loadImm_quiet .l n8 s)
  | .jrNcE8 e8 => .inl (jumpRelIf_quiet .nc e8 s)
  | .ldSpN16 n16 => .inl (loadPairImm_quiet .sp n16 s)
  | .ldAtHlN8 n8 => .inl (storeImm_quiet n8 s)
  | .jrCE8 e8 => .inl (jumpRelIf_quiet .c e8 s)
  | .ldAN8 n8 => .inl (loadImm_quiet .a n8 s)
  | .jpNzA16 a16 => .inl (jumpIf_quiet .nz a16 s)
  | .jpA16 a16 => .inl (jump_quiet a16 s)
  | .callNzA16 a16 => .inl (callIf_quiet .nz a16 s)
  | .addAN8 n8 => .inl (accumulate_quiet .add (.imm n8) s)
  | .jpZA16 a16 => .inl (jumpIf_quiet .z a16 s)
  | .callZA16 a16 => .inl (callIf_quiet .z a16 s)
  | .callA16 a16 => .inl (call_quiet a16 s)
  | .adcAN8 n8 => .inl (accumulate_quiet .adc (.imm n8) s)
  | .jpNcA16 a16 => .inl (jumpIf_quiet .nc a16 s)
  | .callNcA16 a16 => .inl (callIf_quiet .nc a16 s)
  | .subN8 n8 => .inl (accumulate_quiet .sub (.imm n8) s)
  | .jpCA16 a16 => .inl (jumpIf_quiet .c a16 s)
  | .callCA16 a16 => .inl (callIf_quiet .c a16 s)
  | .sbcAN8 n8 => .inl (accumulate_quiet .sbc (.imm n8) s)
  | .ldhAtA8A a8 => .inl (storeAccumulator_quiet (.atA8 a8) s)
  | .andN8 n8 => .inl (accumulate_quiet .and (.imm n8) s)
  | .addSpE8 e8 => .inl (addSpImm_quiet e8 s)
  | .ldAtA16A a16 => .inl (storeAccumulator_quiet (.atA16 a16) s)
  | .xorN8 n8 => .inl (accumulate_quiet .xor (.imm n8) s)
  | .ldhAAtA8 a8 => .inl (loadAccumulator_quiet (.atA8 a8) s)
  | .orN8 n8 => .inl (accumulate_quiet .or (.imm n8) s)
  | .ldHlSpE8 e8 => .inl (loadHlSpImm_quiet e8 s)
  | .ldAAtA16 a16 => .inl (loadAccumulator_quiet (.atA16 a16) s)
  | .cpN8 n8 => .inl (accumulate_quiet .cp (.imm n8) s)
  | .nop => .inl (noOperation_quiet s)
  | .ldAtBcA => .inl (storeAccumulator_quiet .atBc s)
  | .incBc => .inl (incPair_quiet .bc s)
  | .incB => .inl (incOperand_quiet (.reg .b) s)
  | .decB => .inl (decOperand_quiet (.reg .b) s)
  | .rlca => .inl (rotateA_quiet .rlc s)
  | .addHlBc => .inl (addHl_quiet .bc s)
  | .ldAAtBc => .inl (loadAccumulator_quiet .atBc s)
  | .decBc => .inl (decPair_quiet .bc s)
  | .incC => .inl (incOperand_quiet (.reg .c) s)
  | .decC => .inl (decOperand_quiet (.reg .c) s)
  | .rrca => .inl (rotateA_quiet .rrc s)
  | .ldAtDeA => .inl (storeAccumulator_quiet .atDe s)
  | .incDe => .inl (incPair_quiet .de s)
  | .incD => .inl (incOperand_quiet (.reg .d) s)
  | .decD => .inl (decOperand_quiet (.reg .d) s)
  | .rla => .inl (rotateA_quiet .rl s)
  | .addHlDe => .inl (addHl_quiet .de s)
  | .ldAAtDe => .inl (loadAccumulator_quiet .atDe s)
  | .decDe => .inl (decPair_quiet .de s)
  | .incE => .inl (incOperand_quiet (.reg .e) s)
  | .decE => .inl (decOperand_quiet (.reg .e) s)
  | .rra => .inl (rotateA_quiet .rr s)
  | .ldAtHlIncA => .inl (storeAccumulator_quiet .atHlInc s)
  | .incHl => .inl (incPair_quiet .hl s)
  | .incH => .inl (incOperand_quiet (.reg .h) s)
  | .decH => .inl (decOperand_quiet (.reg .h) s)
  | .daa => .inl (decimalAdjust_quiet s)
  | .addHlHl => .inl (addHl_quiet .hl s)
  | .ldAAtHlInc => .inl (loadAccumulator_quiet .atHlInc s)
  | .decHl => .inl (decPair_quiet .hl s)
  | .incL => .inl (incOperand_quiet (.reg .l) s)
  | .decL => .inl (decOperand_quiet (.reg .l) s)
  | .cpl => .inl (complementA_quiet s)
  | .ldAtHlDecA => .inl (storeAccumulator_quiet .atHlDec s)
  | .incSp => .inl (incPair_quiet .sp s)
  | .incAtHl => .inl (incOperand_quiet .atHl s)
  | .decAtHl => .inl (decOperand_quiet .atHl s)
  | .scf => .inl (setCarry_quiet s)
  | .addHlSp => .inl (addHl_quiet .sp s)
  | .ldAAtHlDec => .inl (loadAccumulator_quiet .atHlDec s)
  | .decSp => .inl (decPair_quiet .sp s)
  | .incA => .inl (incOperand_quiet (.reg .a) s)
  | .decA => .inl (decOperand_quiet (.reg .a) s)
  | .ccf => .inl (complementCarry_quiet s)
  | .ldBB => .inl (moveReg_quiet .b .b s)
  | .ldBC => .inl (moveReg_quiet .b .c s)
  | .ldBD => .inl (moveReg_quiet .b .d s)
  | .ldBE => .inl (moveReg_quiet .b .e s)
  | .ldBH => .inl (moveReg_quiet .b .h s)
  | .ldBL => .inl (moveReg_quiet .b .l s)
  | .ldBAtHl => .inl (loadIndirect_quiet .b s)
  | .ldBA => .inl (moveReg_quiet .b .a s)
  | .ldCB => .inl (moveReg_quiet .c .b s)
  | .ldCC => .inl (moveReg_quiet .c .c s)
  | .ldCD => .inl (moveReg_quiet .c .d s)
  | .ldCE => .inl (moveReg_quiet .c .e s)
  | .ldCH => .inl (moveReg_quiet .c .h s)
  | .ldCL => .inl (moveReg_quiet .c .l s)
  | .ldCAtHl => .inl (loadIndirect_quiet .c s)
  | .ldCA => .inl (moveReg_quiet .c .a s)
  | .ldDB => .inl (moveReg_quiet .d .b s)
  | .ldDC => .inl (moveReg_quiet .d .c s)
  | .ldDD => .inl (moveReg_quiet .d .d s)
  | .ldDE => .inl (moveReg_quiet .d .e s)
  | .ldDH => .inl (moveReg_quiet .d .h s)
  | .ldDL => .inl (moveReg_quiet .d .l s)
  | .ldDAtHl => .inl (loadIndirect_quiet .d s)
  | .ldDA => .inl (moveReg_quiet .d .a s)
  | .ldEB => .inl (moveReg_quiet .e .b s)
  | .ldEC => .inl (moveReg_quiet .e .c s)
  | .ldED => .inl (moveReg_quiet .e .d s)
  | .ldEE => .inl (moveReg_quiet .e .e s)
  | .ldEH => .inl (moveReg_quiet .e .h s)
  | .ldEL => .inl (moveReg_quiet .e .l s)
  | .ldEAtHl => .inl (loadIndirect_quiet .e s)
  | .ldEA => .inl (moveReg_quiet .e .a s)
  | .ldHB => .inl (moveReg_quiet .h .b s)
  | .ldHC => .inl (moveReg_quiet .h .c s)
  | .ldHD => .inl (moveReg_quiet .h .d s)
  | .ldHE => .inl (moveReg_quiet .h .e s)
  | .ldHH => .inl (moveReg_quiet .h .h s)
  | .ldHL => .inl (moveReg_quiet .h .l s)
  | .ldHAtHl => .inl (loadIndirect_quiet .h s)
  | .ldHA => .inl (moveReg_quiet .h .a s)
  | .ldLB => .inl (moveReg_quiet .l .b s)
  | .ldLC => .inl (moveReg_quiet .l .c s)
  | .ldLD => .inl (moveReg_quiet .l .d s)
  | .ldLE => .inl (moveReg_quiet .l .e s)
  | .ldLH => .inl (moveReg_quiet .l .h s)
  | .ldLL => .inl (moveReg_quiet .l .l s)
  | .ldLAtHl => .inl (loadIndirect_quiet .l s)
  | .ldLA => .inl (moveReg_quiet .l .a s)
  | .ldAtHlB => .inl (storeIndirect_quiet .b s)
  | .ldAtHlC => .inl (storeIndirect_quiet .c s)
  | .ldAtHlD => .inl (storeIndirect_quiet .d s)
  | .ldAtHlE => .inl (storeIndirect_quiet .e s)
  | .ldAtHlH => .inl (storeIndirect_quiet .h s)
  | .ldAtHlL => .inl (storeIndirect_quiet .l s)
  | .halt => .inr (.inr (.inr (.inr (.inl rfl))))
  | .ldAtHlA => .inl (storeIndirect_quiet .a s)
  | .ldAB => .inl (moveReg_quiet .a .b s)
  | .ldAC => .inl (moveReg_quiet .a .c s)
  | .ldAD => .inl (moveReg_quiet .a .d s)
  | .ldAE => .inl (moveReg_quiet .a .e s)
  | .ldAH => .inl (moveReg_quiet .a .h s)
  | .ldAL => .inl (moveReg_quiet .a .l s)
  | .ldAAtHl => .inl (loadIndirect_quiet .a s)
  | .ldAA => .inl (moveReg_quiet .a .a s)
  | .addAB => .inl (accumulate_quiet .add (.reg .b) s)
  | .addAC => .inl (accumulate_quiet .add (.reg .c) s)
  | .addAD => .inl (accumulate_quiet .add (.reg .d) s)
  | .addAE => .inl (accumulate_quiet .add (.reg .e) s)
  | .addAH => .inl (accumulate_quiet .add (.reg .h) s)
  | .addAL => .inl (accumulate_quiet .add (.reg .l) s)
  | .addAAtHl => .inl (accumulate_quiet .add .atHl s)
  | .addAA => .inl (accumulate_quiet .add (.reg .a) s)
  | .adcAB => .inl (accumulate_quiet .adc (.reg .b) s)
  | .adcAC => .inl (accumulate_quiet .adc (.reg .c) s)
  | .adcAD => .inl (accumulate_quiet .adc (.reg .d) s)
  | .adcAE => .inl (accumulate_quiet .adc (.reg .e) s)
  | .adcAH => .inl (accumulate_quiet .adc (.reg .h) s)
  | .adcAL => .inl (accumulate_quiet .adc (.reg .l) s)
  | .adcAAtHl => .inl (accumulate_quiet .adc .atHl s)
  | .adcAA => .inl (accumulate_quiet .adc (.reg .a) s)
  | .subB => .inl (accumulate_quiet .sub (.reg .b) s)
  | .subC => .inl (accumulate_quiet .sub (.reg .c) s)
  | .subD => .inl (accumulate_quiet .sub (.reg .d) s)
  | .subE => .inl (accumulate_quiet .sub (.reg .e) s)
  | .subH => .inl (accumulate_quiet .sub (.reg .h) s)
  | .subL => .inl (accumulate_quiet .sub (.reg .l) s)
  | .subAtHl => .inl (accumulate_quiet .sub .atHl s)
  | .subA => .inl (accumulate_quiet .sub (.reg .a) s)
  | .sbcAB => .inl (accumulate_quiet .sbc (.reg .b) s)
  | .sbcAC => .inl (accumulate_quiet .sbc (.reg .c) s)
  | .sbcAD => .inl (accumulate_quiet .sbc (.reg .d) s)
  | .sbcAE => .inl (accumulate_quiet .sbc (.reg .e) s)
  | .sbcAH => .inl (accumulate_quiet .sbc (.reg .h) s)
  | .sbcAL => .inl (accumulate_quiet .sbc (.reg .l) s)
  | .sbcAAtHl => .inl (accumulate_quiet .sbc .atHl s)
  | .sbcAA => .inl (accumulate_quiet .sbc (.reg .a) s)
  | .andB => .inl (accumulate_quiet .and (.reg .b) s)
  | .andC => .inl (accumulate_quiet .and (.reg .c) s)
  | .andD => .inl (accumulate_quiet .and (.reg .d) s)
  | .andE => .inl (accumulate_quiet .and (.reg .e) s)
  | .andH => .inl (accumulate_quiet .and (.reg .h) s)
  | .andL => .inl (accumulate_quiet .and (.reg .l) s)
  | .andAtHl => .inl (accumulate_quiet .and .atHl s)
  | .andA => .inl (accumulate_quiet .and (.reg .a) s)
  | .xorB => .inl (accumulate_quiet .xor (.reg .b) s)
  | .xorC => .inl (accumulate_quiet .xor (.reg .c) s)
  | .xorD => .inl (accumulate_quiet .xor (.reg .d) s)
  | .xorE => .inl (accumulate_quiet .xor (.reg .e) s)
  | .xorH => .inl (accumulate_quiet .xor (.reg .h) s)
  | .xorL => .inl (accumulate_quiet .xor (.reg .l) s)
  | .xorAtHl => .inl (accumulate_quiet .xor .atHl s)
  | .xorA => .inl (accumulate_quiet .xor (.reg .a) s)
  | .orB => .inl (accumulate_quiet .or (.reg .b) s)
  | .orC => .inl (accumulate_quiet .or (.reg .c) s)
  | .orD => .inl (accumulate_quiet .or (.reg .d) s)
  | .orE => .inl (accumulate_quiet .or (.reg .e) s)
  | .orH => .inl (accumulate_quiet .or (.reg .h) s)
  | .orL => .inl (accumulate_quiet .or (.reg .l) s)
  | .orAtHl => .inl (accumulate_quiet .or .atHl s)
  | .orA => .inl (accumulate_quiet .or (.reg .a) s)
  | .cpB => .inl (accumulate_quiet .cp (.reg .b) s)
  | .cpC => .inl (accumulate_quiet .cp (.reg .c) s)
  | .cpD => .inl (accumulate_quiet .cp (.reg .d) s)
  | .cpE => .inl (accumulate_quiet .cp (.reg .e) s)
  | .cpH => .inl (accumulate_quiet .cp (.reg .h) s)
  | .cpL => .inl (accumulate_quiet .cp (.reg .l) s)
  | .cpAtHl => .inl (accumulate_quiet .cp .atHl s)
  | .cpA => .inl (accumulate_quiet .cp (.reg .a) s)
  | .retNz => .inl (retIf_quiet .nz s)
  | .popBc => .inl (popPair_quiet .bc s)
  | .pushBc => .inl (pushPair_quiet .bc s)
  | .rst00 => .inl (restart_quiet 0x00#8 s)
  | .retZ => .inl (retIf_quiet .z s)
  | .ret => .inl (ret_quiet s)
  | .prefixCb => .inl (runCb_quiet _ s)
  | .rst08 => .inl (restart_quiet 0x08#8 s)
  | .retNc => .inl (retIf_quiet .nc s)
  | .popDe => .inl (popPair_quiet .de s)
  | .illegalD3 => .inr (.inr (.inr (.inr (.inr (.inr ⟨_, rfl, by decide⟩)))))
  | .pushDe => .inl (pushPair_quiet .de s)
  | .rst10 => .inl (restart_quiet 0x10#8 s)
  | .retC => .inl (retIf_quiet .c s)
  | .reti => .inr (.inr (.inr (.inl rfl)))
  | .illegalDB => .inr (.inr (.inr (.inr (.inr (.inr ⟨_, rfl, by decide⟩)))))
  | .illegalDD => .inr (.inr (.inr (.inr (.inr (.inr ⟨_, rfl, by decide⟩)))))
  | .rst18 => .inl (restart_quiet 0x18#8 s)
  | .popHl => .inl (popPair_quiet .hl s)
  | .ldhAtCA => .inl (storeAccumulator_quiet .atC s)
  | .illegalE3 => .inr (.inr (.inr (.inr (.inr (.inr ⟨_, rfl, by decide⟩)))))
  | .illegalE4 => .inr (.inr (.inr (.inr (.inr (.inr ⟨_, rfl, by decide⟩)))))
  | .pushHl => .inl (pushPair_quiet .hl s)
  | .rst20 => .inl (restart_quiet 0x20#8 s)
  | .jpHl => .inl (jumpHl_quiet s)
  | .illegalEB => .inr (.inr (.inr (.inr (.inr (.inr ⟨_, rfl, by decide⟩)))))
  | .illegalEC => .inr (.inr (.inr (.inr (.inr (.inr ⟨_, rfl, by decide⟩)))))
  | .illegalED => .inr (.inr (.inr (.inr (.inr (.inr ⟨_, rfl, by decide⟩)))))
  | .rst28 => .inl (restart_quiet 0x28#8 s)
  | .popAf => .inl (popPair_quiet .af s)
  | .ldhAAtC => .inl (loadAccumulator_quiet .atC s)
  | .di => .inr (.inl rfl)
  | .illegalF4 => .inr (.inr (.inr (.inr (.inr (.inr ⟨_, rfl, by decide⟩)))))
  | .pushAf => .inl (pushPair_quiet .af s)
  | .rst30 => .inl (restart_quiet 0x30#8 s)
  | .ldSpHl => .inl (loadSpHl_quiet s)
  | .ei => .inr (.inr (.inl rfl))
  | .illegalFC => .inr (.inr (.inr (.inr (.inr (.inr ⟨_, rfl, by decide⟩)))))
  | .illegalFD => .inr (.inr (.inr (.inr (.inr (.inr ⟨_, rfl, by decide⟩)))))
  | .rst38 => .inl (restart_quiet 0x38#8 s)
  | .rlcB => .inl (rotateOperand_quiet .rlc (.reg .b) s)
  | .rlcC => .inl (rotateOperand_quiet .rlc (.reg .c) s)
  | .rlcD => .inl (rotateOperand_quiet .rlc (.reg .d) s)
  | .rlcE => .inl (rotateOperand_quiet .rlc (.reg .e) s)
  | .rlcH => .inl (rotateOperand_quiet .rlc (.reg .h) s)
  | .rlcL => .inl (rotateOperand_quiet .rlc (.reg .l) s)
  | .rlcAtHl => .inl (rotateOperand_quiet .rlc .atHl s)
  | .rlcA => .inl (rotateOperand_quiet .rlc (.reg .a) s)
  | .rrcB => .inl (rotateOperand_quiet .rrc (.reg .b) s)
  | .rrcC => .inl (rotateOperand_quiet .rrc (.reg .c) s)
  | .rrcD => .inl (rotateOperand_quiet .rrc (.reg .d) s)
  | .rrcE => .inl (rotateOperand_quiet .rrc (.reg .e) s)
  | .rrcH => .inl (rotateOperand_quiet .rrc (.reg .h) s)
  | .rrcL => .inl (rotateOperand_quiet .rrc (.reg .l) s)
  | .rrcAtHl => .inl (rotateOperand_quiet .rrc .atHl s)
  | .rrcA => .inl (rotateOperand_quiet .rrc (.reg .a) s)
  | .rlB => .inl (rotateOperand_quiet .rl (.reg .b) s)
  | .rlC => .inl (rotateOperand_quiet .rl (.reg .c) s)
  | .rlD => .inl (rotateOperand_quiet .rl (.reg .d) s)
  | .rlE => .inl (rotateOperand_quiet .rl (.reg .e) s)
  | .rlH => .inl (rotateOperand_quiet .rl (.reg .h) s)
  | .rlL => .inl (rotateOperand_quiet .rl (.reg .l) s)
  | .rlAtHl => .inl (rotateOperand_quiet .rl .atHl s)
  | .rlA => .inl (rotateOperand_quiet .rl (.reg .a) s)
  | .rrB => .inl (rotateOperand_quiet .rr (.reg .b) s)
  | .rrC => .inl (rotateOperand_quiet .rr (.reg .c) s)
  | .rrD => .inl (rotateOperand_quiet .rr (.reg .d) s)
  | .rrE => .inl (rotateOperand_quiet .rr (.reg .e) s)
  | .rrH => .inl (rotateOperand_quiet .rr (.reg .h) s)
  | .rrL => .inl (rotateOperand_quiet .rr (.reg .l) s)
  | .rrAtHl => .inl (rotateOperand_quiet .rr .atHl s)
  | .rrA => .inl (rotateOperand_quiet .rr (.reg .a) s)
  | .slaB => .inl (rotateOperand_quiet .sla (.reg .b) s)
  | .slaC => .inl (rotateOperand_quiet .sla (.reg .c) s)
  | .slaD => .inl (rotateOperand_quiet .sla (.reg .d) s)
  | .slaE => .inl (rotateOperand_quiet .sla (.reg .e) s)
  | .slaH => .inl (rotateOperand_quiet .sla (.reg .h) s)
  | .slaL => .inl (rotateOperand_quiet .sla (.reg .l) s)
  | .slaAtHl => .inl (rotateOperand_quiet .sla .atHl s)
  | .slaA => .inl (rotateOperand_quiet .sla (.reg .a) s)
  | .sraB => .inl (rotateOperand_quiet .sra (.reg .b) s)
  | .sraC => .inl (rotateOperand_quiet .sra (.reg .c) s)
  | .sraD => .inl (rotateOperand_quiet .sra (.reg .d) s)
  | .sraE => .inl (rotateOperand_quiet .sra (.reg .e) s)
  | .sraH => .inl (rotateOperand_quiet .sra (.reg .h) s)
  | .sraL => .inl (rotateOperand_quiet .sra (.reg .l) s)
  | .sraAtHl => .inl (rotateOperand_quiet .sra .atHl s)
  | .sraA => .inl (rotateOperand_quiet .sra (.reg .a) s)
  | .swapB => .inl (rotateOperand_quiet .swap (.reg .b) s)
  | .swapC => .inl (rotateOperand_quiet .swap (.reg .c) s)
  | .swapD => .inl (rotateOperand_quiet .swap (.reg .d) s)
  | .swapE => .inl (rotateOperand_quiet .swap (.reg .e) s)
  | .swapH => .inl (rotateOperand_quiet .swap (.reg .h) s)
  | .swapL => .inl (rotateOperand_quiet .swap (.reg .l) s)
  | .swapAtHl => .inl (rotateOperand_quiet .swap .atHl s)
  | .swapA => .inl (rotateOperand_quiet .swap (.reg .a) s)
  | .srlB => .inl (rotateOperand_quiet .srl (.reg .b) s)
  | .srlC => .inl (rotateOperand_quiet .srl (.reg .c) s)
  | .srlD => .inl (rotateOperand_quiet .srl (.reg .d) s)
  | .srlE => .inl (rotateOperand_quiet .srl (.reg .e) s)
  | .srlH => .inl (rotateOperand_quiet .srl (.reg .h) s)
  | .srlL => .inl (rotateOperand_quiet .srl (.reg .l) s)
  | .srlAtHl => .inl (rotateOperand_quiet .srl .atHl s)
  | .srlA => .inl (rotateOperand_quiet .srl (.reg .a) s)
  | .bit0B => .inl (testBit_quiet 0#3 (.reg .b) s)
  | .bit0C => .inl (testBit_quiet 0#3 (.reg .c) s)
  | .bit0D => .inl (testBit_quiet 0#3 (.reg .d) s)
  | .bit0E => .inl (testBit_quiet 0#3 (.reg .e) s)
  | .bit0H => .inl (testBit_quiet 0#3 (.reg .h) s)
  | .bit0L => .inl (testBit_quiet 0#3 (.reg .l) s)
  | .bit0AtHl => .inl (testBit_quiet 0#3 .atHl s)
  | .bit0A => .inl (testBit_quiet 0#3 (.reg .a) s)
  | .bit1B => .inl (testBit_quiet 1#3 (.reg .b) s)
  | .bit1C => .inl (testBit_quiet 1#3 (.reg .c) s)
  | .bit1D => .inl (testBit_quiet 1#3 (.reg .d) s)
  | .bit1E => .inl (testBit_quiet 1#3 (.reg .e) s)
  | .bit1H => .inl (testBit_quiet 1#3 (.reg .h) s)
  | .bit1L => .inl (testBit_quiet 1#3 (.reg .l) s)
  | .bit1AtHl => .inl (testBit_quiet 1#3 .atHl s)
  | .bit1A => .inl (testBit_quiet 1#3 (.reg .a) s)
  | .bit2B => .inl (testBit_quiet 2#3 (.reg .b) s)
  | .bit2C => .inl (testBit_quiet 2#3 (.reg .c) s)
  | .bit2D => .inl (testBit_quiet 2#3 (.reg .d) s)
  | .bit2E => .inl (testBit_quiet 2#3 (.reg .e) s)
  | .bit2H => .inl (testBit_quiet 2#3 (.reg .h) s)
  | .bit2L => .inl (testBit_quiet 2#3 (.reg .l) s)
  | .bit2AtHl => .inl (testBit_quiet 2#3 .atHl s)
  | .bit2A => .inl (testBit_quiet 2#3 (.reg .a) s)
  | .bit3B => .inl (testBit_quiet 3#3 (.reg .b) s)
  | .bit3C => .inl (testBit_quiet 3#3 (.reg .c) s)
  | .bit3D => .inl (testBit_quiet 3#3 (.reg .d) s)
  | .bit3E => .inl (testBit_quiet 3#3 (.reg .e) s)
  | .bit3H => .inl (testBit_quiet 3#3 (.reg .h) s)
  | .bit3L => .inl (testBit_quiet 3#3 (.reg .l) s)
  | .bit3AtHl => .inl (testBit_quiet 3#3 .atHl s)
  | .bit3A => .inl (testBit_quiet 3#3 (.reg .a) s)
  | .bit4B => .inl (testBit_quiet 4#3 (.reg .b) s)
  | .bit4C => .inl (testBit_quiet 4#3 (.reg .c) s)
  | .bit4D => .inl (testBit_quiet 4#3 (.reg .d) s)
  | .bit4E => .inl (testBit_quiet 4#3 (.reg .e) s)
  | .bit4H => .inl (testBit_quiet 4#3 (.reg .h) s)
  | .bit4L => .inl (testBit_quiet 4#3 (.reg .l) s)
  | .bit4AtHl => .inl (testBit_quiet 4#3 .atHl s)
  | .bit4A => .inl (testBit_quiet 4#3 (.reg .a) s)
  | .bit5B => .inl (testBit_quiet 5#3 (.reg .b) s)
  | .bit5C => .inl (testBit_quiet 5#3 (.reg .c) s)
  | .bit5D => .inl (testBit_quiet 5#3 (.reg .d) s)
  | .bit5E => .inl (testBit_quiet 5#3 (.reg .e) s)
  | .bit5H => .inl (testBit_quiet 5#3 (.reg .h) s)
  | .bit5L => .inl (testBit_quiet 5#3 (.reg .l) s)
  | .bit5AtHl => .inl (testBit_quiet 5#3 .atHl s)
  | .bit5A => .inl (testBit_quiet 5#3 (.reg .a) s)
  | .bit6B => .inl (testBit_quiet 6#3 (.reg .b) s)
  | .bit6C => .inl (testBit_quiet 6#3 (.reg .c) s)
  | .bit6D => .inl (testBit_quiet 6#3 (.reg .d) s)
  | .bit6E => .inl (testBit_quiet 6#3 (.reg .e) s)
  | .bit6H => .inl (testBit_quiet 6#3 (.reg .h) s)
  | .bit6L => .inl (testBit_quiet 6#3 (.reg .l) s)
  | .bit6AtHl => .inl (testBit_quiet 6#3 .atHl s)
  | .bit6A => .inl (testBit_quiet 6#3 (.reg .a) s)
  | .bit7B => .inl (testBit_quiet 7#3 (.reg .b) s)
  | .bit7C => .inl (testBit_quiet 7#3 (.reg .c) s)
  | .bit7D => .inl (testBit_quiet 7#3 (.reg .d) s)
  | .bit7E => .inl (testBit_quiet 7#3 (.reg .e) s)
  | .bit7H => .inl (testBit_quiet 7#3 (.reg .h) s)
  | .bit7L => .inl (testBit_quiet 7#3 (.reg .l) s)
  | .bit7AtHl => .inl (testBit_quiet 7#3 .atHl s)
  | .bit7A => .inl (testBit_quiet 7#3 (.reg .a) s)
  | .res0B => .inl (resetBit_quiet 0#3 (.reg .b) s)
  | .res0C => .inl (resetBit_quiet 0#3 (.reg .c) s)
  | .res0D => .inl (resetBit_quiet 0#3 (.reg .d) s)
  | .res0E => .inl (resetBit_quiet 0#3 (.reg .e) s)
  | .res0H => .inl (resetBit_quiet 0#3 (.reg .h) s)
  | .res0L => .inl (resetBit_quiet 0#3 (.reg .l) s)
  | .res0AtHl => .inl (resetBit_quiet 0#3 .atHl s)
  | .res0A => .inl (resetBit_quiet 0#3 (.reg .a) s)
  | .res1B => .inl (resetBit_quiet 1#3 (.reg .b) s)
  | .res1C => .inl (resetBit_quiet 1#3 (.reg .c) s)
  | .res1D => .inl (resetBit_quiet 1#3 (.reg .d) s)
  | .res1E => .inl (resetBit_quiet 1#3 (.reg .e) s)
  | .res1H => .inl (resetBit_quiet 1#3 (.reg .h) s)
  | .res1L => .inl (resetBit_quiet 1#3 (.reg .l) s)
  | .res1AtHl => .inl (resetBit_quiet 1#3 .atHl s)
  | .res1A => .inl (resetBit_quiet 1#3 (.reg .a) s)
  | .res2B => .inl (resetBit_quiet 2#3 (.reg .b) s)
  | .res2C => .inl (resetBit_quiet 2#3 (.reg .c) s)
  | .res2D => .inl (resetBit_quiet 2#3 (.reg .d) s)
  | .res2E => .inl (resetBit_quiet 2#3 (.reg .e) s)
  | .res2H => .inl (resetBit_quiet 2#3 (.reg .h) s)
  | .res2L => .inl (resetBit_quiet 2#3 (.reg .l) s)
  | .res2AtHl => .inl (resetBit_quiet 2#3 .atHl s)
  | .res2A => .inl (resetBit_quiet 2#3 (.reg .a) s)
  | .res3B => .inl (resetBit_quiet 3#3 (.reg .b) s)
  | .res3C => .inl (resetBit_quiet 3#3 (.reg .c) s)
  | .res3D => .inl (resetBit_quiet 3#3 (.reg .d) s)
  | .res3E => .inl (resetBit_quiet 3#3 (.reg .e) s)
  | .res3H => .inl (resetBit_quiet 3#3 (.reg .h) s)
  | .res3L => .inl (resetBit_quiet 3#3 (.reg .l) s)
  | .res3AtHl => .inl (resetBit_quiet 3#3 .atHl s)
  | .res3A => .inl (resetBit_quiet 3#3 (.reg .a) s)
  | .res4B => .inl (resetBit_quiet 4#3 (.reg .b) s)
  | .res4C => .inl (resetBit_quiet 4#3 (.reg .c) s)
  | .res4D => .inl (resetBit_quiet 4#3 (.reg .d) s)
  | .res4E => .inl (resetBit_quiet 4#3 (.reg .e) s)
  | .res4H => .inl (resetBit_quiet 4#3 (.reg .h) s)
  | .res4L => .inl (resetBit_quiet 4#3 (.reg .l) s)
  | .res4AtHl => .inl (resetBit_quiet 4#3 .atHl s)
  | .res4A => .inl (resetBit_quiet 4#3 (.reg .a) s)
  | .res5B => .inl (resetBit_quiet 5#3 (.reg .b) s)
  | .res5C => .inl (resetBit_quiet 5#3 (.reg .c) s)
  | .res5D => .inl (resetBit_quiet 5#3 (.reg .d) s)
  | .res5E => .inl (resetBit_quiet 5#3 (.reg .e) s)
  | .res5H => .inl (resetBit_quiet 5#3 (.reg .h) s)
  | .res5L => .inl (resetBit_quiet 5#3 (.reg .l) s)
  | .res5AtHl => .inl (resetBit_quiet 5#3 .atHl s)
  | .res5A => .inl (resetBit_quiet 5#3 (.reg .a) s)
  | .res6B => .inl (resetBit_quiet 6#3 (.reg .b) s)
  | .res6C => .inl (resetBit_quiet 6#3 (.reg .c) s)
  | .res6D => .inl (resetBit_quiet 6#3 (.reg .d) s)
  | .res6E => .inl (resetBit_quiet 6#3 (.reg .e) s)
  | .res6H => .inl (resetBit_quiet 6#3 (.reg .h) s)
  | .res6L => .inl (resetBit_quiet 6#3 (.reg .l) s)
  | .res6AtHl => .inl (resetBit_quiet 6#3 .atHl s)
  | .res6A => .inl (resetBit_quiet 6#3 (.reg .a) s)
  | .res7B => .inl (resetBit_quiet 7#3 (.reg .b) s)
  | .res7C => .inl (resetBit_quiet 7#3 (.reg .c) s)
  | .res7D => .inl (resetBit_quiet 7#3 (.reg .d) s)
  | .res7E => .inl (resetBit_quiet 7#3 (.reg .e) s)
  | .res7H => .inl (resetBit_quiet 7#3 (.reg .h) s)
  | .res7L => .inl (resetBit_quiet 7#3 (.reg .l) s)
  | .res7AtHl => .inl (resetBit_quiet 7#3 .atHl s)
  | .res7A => .inl (resetBit_quiet 7#3 (.reg .a) s)
  | .set0B => .inl (setBit_quiet 0#3 (.reg .b) s)
  | .set0C => .inl (setBit_quiet 0#3 (.reg .c) s)
  | .set0D => .inl (setBit_quiet 0#3 (.reg .d) s)
  | .set0E => .inl (setBit_quiet 0#3 (.reg .e) s)
  | .set0H => .inl (setBit_quiet 0#3 (.reg .h) s)
  | .set0L => .inl (setBit_quiet 0#3 (.reg .l) s)
  | .set0AtHl => .inl (setBit_quiet 0#3 .atHl s)
  | .set0A => .inl (setBit_quiet 0#3 (.reg .a) s)
  | .set1B => .inl (setBit_quiet 1#3 (.reg .b) s)
  | .set1C => .inl (setBit_quiet 1#3 (.reg .c) s)
  | .set1D => .inl (setBit_quiet 1#3 (.reg .d) s)
  | .set1E => .inl (setBit_quiet 1#3 (.reg .e) s)
  | .set1H => .inl (setBit_quiet 1#3 (.reg .h) s)
  | .set1L => .inl (setBit_quiet 1#3 (.reg .l) s)
  | .set1AtHl => .inl (setBit_quiet 1#3 .atHl s)
  | .set1A => .inl (setBit_quiet 1#3 (.reg .a) s)
  | .set2B => .inl (setBit_quiet 2#3 (.reg .b) s)
  | .set2C => .inl (setBit_quiet 2#3 (.reg .c) s)
  | .set2D => .inl (setBit_quiet 2#3 (.reg .d) s)
  | .set2E => .inl (setBit_quiet 2#3 (.reg .e) s)
  | .set2H => .inl (setBit_quiet 2#3 (.reg .h) s)
  | .set2L => .inl (setBit_quiet 2#3 (.reg .l) s)
  | .set2AtHl => .inl (setBit_quiet 2#3 .atHl s)
  | .set2A => .inl (setBit_quiet 2#3 (.reg .a) s)
  | .set3B => .inl (setBit_quiet 3#3 (.reg .b) s)
  | .set3C => .inl (setBit_quiet 3#3 (.reg .c) s)
  | .set3D => .inl (setBit_quiet 3#3 (.reg .d) s)
  | .set3E => .inl (setBit_quiet 3#3 (.reg .e) s)
  | .set3H => .inl (setBit_quiet 3#3 (.reg .h) s)
  | .set3L => .inl (setBit_quiet 3#3 (.reg .l) s)
  | .set3AtHl => .inl (setBit_quiet 3#3 .atHl s)
  | .set3A => .inl (setBit_quiet 3#3 (.reg .a) s)
  | .set4B => .inl (setBit_quiet 4#3 (.reg .b) s)
  | .set4C => .inl (setBit_quiet 4#3 (.reg .c) s)
  | .set4D => .inl (setBit_quiet 4#3 (.reg .d) s)
  | .set4E => .inl (setBit_quiet 4#3 (.reg .e) s)
  | .set4H => .inl (setBit_quiet 4#3 (.reg .h) s)
  | .set4L => .inl (setBit_quiet 4#3 (.reg .l) s)
  | .set4AtHl => .inl (setBit_quiet 4#3 .atHl s)
  | .set4A => .inl (setBit_quiet 4#3 (.reg .a) s)
  | .set5B => .inl (setBit_quiet 5#3 (.reg .b) s)
  | .set5C => .inl (setBit_quiet 5#3 (.reg .c) s)
  | .set5D => .inl (setBit_quiet 5#3 (.reg .d) s)
  | .set5E => .inl (setBit_quiet 5#3 (.reg .e) s)
  | .set5H => .inl (setBit_quiet 5#3 (.reg .h) s)
  | .set5L => .inl (setBit_quiet 5#3 (.reg .l) s)
  | .set5AtHl => .inl (setBit_quiet 5#3 .atHl s)
  | .set5A => .inl (setBit_quiet 5#3 (.reg .a) s)
  | .set6B => .inl (setBit_quiet 6#3 (.reg .b) s)
  | .set6C => .inl (setBit_quiet 6#3 (.reg .c) s)
  | .set6D => .inl (setBit_quiet 6#3 (.reg .d) s)
  | .set6E => .inl (setBit_quiet 6#3 (.reg .e) s)
  | .set6H => .inl (setBit_quiet 6#3 (.reg .h) s)
  | .set6L => .inl (setBit_quiet 6#3 (.reg .l) s)
  | .set6AtHl => .inl (setBit_quiet 6#3 .atHl s)
  | .set6A => .inl (setBit_quiet 6#3 (.reg .a) s)
  | .set7B => .inl (setBit_quiet 7#3 (.reg .b) s)
  | .set7C => .inl (setBit_quiet 7#3 (.reg .c) s)
  | .set7D => .inl (setBit_quiet 7#3 (.reg .d) s)
  | .set7E => .inl (setBit_quiet 7#3 (.reg .e) s)
  | .set7H => .inl (setBit_quiet 7#3 (.reg .h) s)
  | .set7L => .inl (setBit_quiet 7#3 (.reg .l) s)
  | .set7AtHl => .inl (setBit_quiet 7#3 .atHl s)
  | .set7A => .inl (setBit_quiet 7#3 (.reg .a) s)

end Sys2Proof.Machine
end

