-- ==== Sys2Proof/Laws/Step.lean ====
section
/-! SUPPORT. What a step can do: one case analysis that later claims cite in place of unfolding the dispatcher. -/

namespace Sys2Proof.Machine

/-! ## Decoding the stream -/

theorem encode_length_le (i : Instr) : i.encode.length ≤ 3 := by
  cases i <;> exact Nat.le_of_ble_eq_true rfl

/-- Any three bytes decode to the instruction of the decoder's window. -/
theorem decode_window (b0 b1 b2 : Byte) :
    decode [b0, b1, b2] = .ok (decodeWindow b0 b1 b2, [b0, b1, b2].drop (decodeWindow b0 b1 b2).length) := by
  simp [decode, Instr.length, encode_length_le]

theorem streamBytes_decode (s : State) : ∃ rest : List Byte, decode s.streamBytes = .ok (s.nextInstr, rest) := by
  rw [State.nextInstr_eq, State.streamBytes]
  split
  · exact ⟨_, decode_window _ _ _⟩
  · exact ⟨_, decode_window _ _ _⟩

/-- The instruction a step runs is the one the fetches read. -/
theorem State.Runs.instr {s : State} {i : Instr} (h : s.Runs i) : i = s.nextInstr := by
  obtain ⟨-, -, rest, hd⟩ := h
  obtain ⟨rest', hd'⟩ := streamBytes_decode s
  rw [hd'] at hd
  cases hd
  rfl

theorem runs_nextInstr {s : State} (awake : s.Awake) (quiet : ¬s.InterruptDue) : s.Runs s.nextInstr :=
  ⟨awake, quiet, streamBytes_decode s⟩

/-! ## Every meaning answers a next state -/

theorem sharedCase_next {s : State} {r : Result} (h : SharedCase s r) : ∃ t : State, r = .next t := by
  cases h with
  | jumpIf cc a16 => unfold jumpIf; dsimp only; split <;> exact ⟨_, rfl⟩
  | jumpRelIf cc e8 => unfold jumpRelIf; dsimp only; split <;> exact ⟨_, rfl⟩
  | callIf cc a16 => unfold callIf; dsimp only; split <;> exact ⟨_, rfl⟩
  | retIf cc => unfold retIf; dsimp only; split <;> exact ⟨_, rfl⟩
  | haltCore =>
    unfold haltCore
    dsimp only
    split
    · exact ⟨_, rfl⟩
    · split <;> exact ⟨_, rfl⟩
  | _ => exact ⟨_, rfl⟩

theorem exec_next (i : Instr) (s : State) : ∃ t : State, exec i s = .next t := sharedCase_next (exec_sharedCase i s)

/-! ## The dispatcher -/

@[simp] theorem nextInstr_run (s : State) : ({ s with mode := .run } : State).nextInstr = s.nextInstr := by
  simp only [State.nextInstr_eq]; rfl

theorem stepBoundary_cases (s : State) :
    (s.InterruptDue ∧ stepBoundary s = .next ((s.interruptEntry (lowestPending s.pending)).addCycles 20)) ∨
    (¬s.InterruptDue ∧ ∃ u : State, exec s.nextInstr s = .next u ∧
      stepBoundary s = .next (u.afterInstruction s.eiPending)) := by
  by_cases h : s.InterruptDue
  · refine .inl ⟨h, ?_⟩
    simp only [stepBoundary, h.1, Bool.true_and, bne_iff_ne, ne_eq, h.2, not_false_eq_true, if_true]
    rfl
  · refine .inr ⟨h, ?_⟩
    obtain ⟨u, hu⟩ := exec_next s.nextInstr s
    refine ⟨u, hu, ?_⟩
    have h' : ¬((s.ime && s.pending != 0x00#8) = true) := by
      simpa [State.InterruptDue] using h
    rw [stepBoundary, if_neg h', runInstruction, hu]

/-- A step from a state without a fault idles, enters an interrupt, or runs the instruction at PC with the delayed effect
of a previous EI after it (R52). -/
theorem step_cases {s : State} (h : s.fault = none) :
    (s.Idle ∧ step s = .next (s.addCycles 4)) ∨
    (s.Awake ∧ s.InterruptDue ∧
      step s = .next ((({ s with mode := .run } : State).interruptEntry (lowestPending s.pending)).addCycles 20)) ∨
    (s.Runs s.nextInstr ∧ ∃ u : State, exec s.nextInstr { s with mode := .run } = .next u ∧
      step s = .next (u.afterInstruction s.eiPending)) := by
  have boundary : s.Awake → step s = stepBoundary { s with mode := .run } →
      (s.Awake ∧ s.InterruptDue ∧
        step s = .next ((({ s with mode := .run } : State).interruptEntry (lowestPending s.pending)).addCycles 20)) ∨
      (s.Runs s.nextInstr ∧ ∃ u : State, exec s.nextInstr { s with mode := .run } = .next u ∧
        step s = .next (u.afterInstruction s.eiPending)) := by
    intro awake hstep
    rcases stepBoundary_cases { s with mode := .run } with ⟨due, hb⟩ | ⟨quiet, u, hu, hb⟩
    · exact .inl ⟨awake, due, hstep.trans hb⟩
    · refine .inr ⟨runs_nextInstr awake quiet, u, ?_, hstep.trans hb⟩
      rwa [nextInstr_run] at hu
  cases hm : s.mode with
  | run =>
    refine .inr (boundary ⟨h, .inl hm⟩ ?_)
    have : ({ s with mode := .run } : State) = s := by rw [← hm]
    rw [this]
    simp only [step, h, hm]
  | stopped =>
    refine .inl ⟨⟨h, .inl hm⟩, ?_⟩
    simp only [step, h, hm]
    rfl
  | halted =>
    by_cases hp : s.pending = 0x00#8
    · refine .inl ⟨⟨h, .inr ⟨hm, hp⟩⟩, ?_⟩
      simp only [step, h, hm, hp, if_true]
      rfl
    · refine .inr (boundary ⟨h, .inr ⟨hm, hp⟩⟩ ?_)
      simp only [step, h, hm, hp, if_false]

/-- R31: "A step from a faulted state changes nothing and reports the same fault." -/
theorem step_faulted {s : State} {f : Fault} (h : s.fault = some f) : step s = .fault f := by simp only [step, h]

/-! ## Interrupt entry and the delayed EI -/

@[simp] theorem State.interruptEntry_af (s : State) (n : Nat) : (s.interruptEntry n).af = s.af := rfl
@[simp] theorem State.interruptEntry_bc (s : State) (n : Nat) : (s.interruptEntry n).bc = s.bc := rfl
@[simp] theorem State.interruptEntry_de (s : State) (n : Nat) : (s.interruptEntry n).de = s.de := rfl
@[simp] theorem State.interruptEntry_hl (s : State) (n : Nat) : (s.interruptEntry n).hl = s.hl := rfl
@[simp] theorem State.interruptEntry_pc (s : State) (n : Nat) : (s.interruptEntry n).pc = interruptVector n := rfl
@[simp] theorem State.interruptEntry_ime (s : State) (n : Nat) : (s.interruptEntry n).ime = false := rfl
@[simp] theorem State.interruptEntry_eiPending (s : State) (n : Nat) : (s.interruptEntry n).eiPending = false := rfl
@[simp] theorem State.interruptEntry_mode (s : State) (n : Nat) : (s.interruptEntry n).mode = s.mode := rfl
@[simp] theorem State.interruptEntry_haltBug (s : State) (n : Nat) : (s.interruptEntry n).haltBug = false := rfl
@[simp] theorem State.interruptEntry_cycles (s : State) (n : Nat) : (s.interruptEntry n).cycles = s.cycles := rfl
@[simp] theorem State.interruptEntry_fault (s : State) (n : Nat) : (s.interruptEntry n).fault = s.fault := rfl
@[simp] theorem State.interruptEntry_sp (s : State) (n : Nat) : (s.interruptEntry n).sp = s.sp - 2#16 :=
  State.push16_sp _ _

theorem State.interruptEntry_readByte (s : State) (n : Nat) (b : Word16) :
    (s.interruptEntry n).readByte b =
      if s.sp - 2#16 = b then loByte (if s.haltBug then s.pc - 1#16 else s.pc)
      else if s.sp - 1#16 = b then hiByte (if s.haltBug then s.pc - 1#16 else s.pc)
      else if addrIF = b then s.readByte addrIF &&& ~~~(1#8 <<< n)
      else s.readByte b := by
  have h : (s.interruptEntry n).readByte b =
      ((({ s with ime := false, eiPending := false, haltBug := false } : State).writeByte addrIF
        (s.readByte addrIF &&& ~~~(1#8 <<< n))).push16 (if s.haltBug then s.pc - 1#16 else s.pc)).readByte b := rfl
  rw [h, State.readByte_push16, State.readByte_writeByte]
  rfl

theorem Memory.wf_interruptEntry {s : State} (n : Nat) (h : Memory.wf s.mem = true) :
    Memory.wf (s.interruptEntry n).mem = true := Memory.wf_push16 _ (Memory.wf_writeByte _ _ h)

/-- R54: all that the delayed EI changes is IME and ei_pending. -/
theorem State.afterInstruction_eq (s : State) (pending : Bool) :
    s.afterInstruction pending = s ∨
      (pending = true ∧ s.fault = none ∧ s.eiPending = true ∧
        s.afterInstruction pending = { s with ime := true, eiPending := false }) := by
  unfold State.afterInstruction
  split
  · next h =>
    simp only [Bool.and_eq_true, Option.isNone_iff_eq_none] at h
    exact .inr ⟨h.1.2, h.1.1, h.2, rfl⟩
  · exact .inl rfl

/-! ## The lowest pending source -/

/-- R235: the lowest set bit of the pending sources, all of which are among the five. -/
theorem lowestPending_spec (p : Byte) (h : p &&& 0x1F#8 ≠ 0x00#8) :
    lowestPending p < 5 ∧ p.getLsbD (lowestPending p) = true ∧
      ∀ m : Nat, m < lowestPending p → p.getLsbD m = false := by
  unfold lowestPending
  have key : ∀ q : Byte, q &&& 0x1F#8 ≠ 0x00#8 →
      q.getLsbD 0 = false → q.getLsbD 1 = false → q.getLsbD 2 = false → q.getLsbD 3 = false → q.getLsbD 4 = true := by
    decide
  split_ifs with h0 h1 h2 h3
  · exact ⟨by omega, h0, fun m hm => absurd hm (by omega)⟩
  · exact ⟨by omega, h1, fun m hm => by interval_cases m; simpa using h0⟩
  · exact ⟨by omega, h2, fun m hm => by interval_cases m <;> simp_all⟩
  · exact ⟨by omega, h3, fun m hm => by interval_cases m <;> simp_all⟩
  · refine ⟨by omega, key p h ?_ ?_ ?_ ?_, fun m hm => by interval_cases m <;> simp_all⟩ <;> simp_all

end Sys2Proof.Machine
end

