-- ==== Sys2Proof/Tests/Slice0.lean ====
section
/-! SUPPORT. The model's own tests. Expected values come from the spec: the encodings of 30_encoding.md, the vectors of
95_test_vectors.md (each test names its row), and hand evaluation of the rules. The last part shows, for each statement
with hypotheses, a state and operands that meet them. -/

namespace Sys2Proof.Tests

open Sys2Proof.Machine Sys2Proof.Claims

/-! ## Well-formedness -/

theorem test_bare_prefix_is_ill_formed : ¬Instr.WellFormed .prefixCb := by decide

theorem test_bare_prefix_is_no_instruction_of_a_stream :
    decodeWindow 0xCB#8 0x00#8 0x00#8 ≠ .prefixCb := by decide

theorem test_nop_is_well_formed : Instr.WellFormed .nop := by decide

/-! ## Decoding words written out from the spec's encodings -/

/-- The instruction at the head of a byte list, where one is there. -/
def head (bytes : List Byte) : Option Instr :=
  match decode bytes with
  | .ok (i, _) => some i
  | .error _ => none

/-- R62, R118: "00 r 110" with r = 001 is LD C,n8. -/
theorem test_decode_load_imm : head [0b00001110#8, 0x9C#8] = some (.ldCN8 0x9C#8) := by decide
/-- R63, R111: "00 rr 0001" with rr = 11 is LD SP,n16, low byte first. -/
theorem test_decode_load_pair : head [0b00110001#8, 0xFE#8, 0xFF#8] = some (.ldSpN16 0xFFFE#16) := by decide
/-- R120: "01 r r'" with r = 101 and r' = 000 is LD L,B. -/
theorem test_decode_move : head [0b01101000#8] = some .ldLB := by decide
/-- R121: "01 r 110" with r = 111. -/
theorem test_decode_load_at_hl : head [0b01111110#8] = some .ldAAtHl := by decide
/-- R122: "01 110 r" with r = 011. -/
theorem test_decode_store_at_hl : head [0b01110011#8] = some .ldAtHlE := by decide
/-- R202: the code 110 in both fields is HALT, no load. -/
theorem test_decode_halt : head [0b01110110#8] = some .halt := by decide
/-- R66, R140: "10 alu r" with alu = 011 and r = 110 is SBC A,(HL). -/
theorem test_decode_alu : head [0b10011110#8] = some .sbcAAtHl := by decide
/-- R140: "11 alu 110" with alu = 101 is XOR n8. -/
theorem test_decode_alu_imm : head [0b11101110#8, 0x0F#8] = some (.xorN8 0x0F#8) := by decide
/-- R151: "00 r 101" with r = 100 is DEC H. -/
theorem test_decode_dec : head [0b00100101#8] = some .decH := by decide
/-- R153: "00 rr 1001" with rr = 01 is ADD HL,DE. -/
theorem test_decode_add_hl : head [0b00011001#8] = some .addHlDe := by decide
/-- R64, R172: "11 rr2 0001" with rr2 = 11 is POP AF. -/
theorem test_decode_pop_af : head [0b11110001#8] = some .popAf := by decide
/-- R65, R178: "001 cc 000" with cc = 10 is JR NC,e8. -/
theorem test_decode_jr_cond : head [0b00110000#8, 0x80#8] = some (.jrNcE8 0x80#8) := by decide
/-- R180: "110 cc 100" with cc = 11 is CALL C,a16. -/
theorem test_decode_call_cond : head [0b11011100#8, 0x34#8, 0x12#8] = some (.callCA16 0x1234#16) := by decide
/-- R184: "11 y 111" with y = 5 is RST 28. -/
theorem test_decode_rst : head [0b11101111#8] = some .rst28 := by decide
/-- R203: STOP takes its second byte whatever it is. -/
theorem test_decode_stop : head [0x10#8, 0x3C#8] = some (.stop 0x3C#8) := by decide
/-- R67, R74: "00 rot r" with rot = 111 and r = 110 after the prefix is SRL (HL). -/
theorem test_decode_cb_rotate : head [0xCB#8, 0b00111110#8] = some .srlAtHl := by decide
/-- R74, R269: "01 b r" with b = 3 and r = 110 is BIT 3,(HL). -/
theorem test_decode_cb_bit : head [0xCB#8, 0b01011110#8] = some .bit3AtHl := by decide
/-- R75: E4 is illegal, and the byte after it belongs to it in no way. -/
theorem test_decode_illegal : head [0xE4#8, 0x00#8] = some .illegalE4 := by decide
/-- R79: a list of bytes that ends inside an instruction decodes to nothing. -/
theorem test_decode_truncated : head [0xC3#8, 0x00#8] = none := by decide

/-! ## Vectors of 95_test_vectors.md -/

/-- The vectors' default start state. -/
def start : State := { State.reset with sp := 0xFFFE#16 }

/-- The state after one step that answers a next state. -/
def after (s : State) : State :=
  match step s with
  | .next t => t
  | .fault _ => s
  | .refused _ => s

/-- A start state with the bytes of a program at 0x0100. -/
def program (bytes : List Byte) (s : State) : State := s.placeBytes 0x0100#16 bytes

/-- A state with values of IE and IF. -/
def interrupts (ie flags : Byte) (s : State) : State := (s.writeByte 0xFFFF#16 ie).writeByte 0xFF0F#16 flags

/-- Vector RF3. -/
theorem test_move_reads_old_source :
    let t := after ((({ (start) with hl := 0x1234#16 } : State)).placeBytes 0x0100#16 [0x65#8])
    (t.hl, t.cycles, t.pc) =
      (0x3434#16, 4, 0x0101#16) := by decide

/-- Vector RF5. -/
theorem test_pop_af_drops_low_nibble :
    let t := after ((((start).writeByte 0xFFFE#16 0x0F#8).writeByte 0xFFFF#16 0xAB#8).placeBytes 0x0100#16 [0xF1#8])
    (t.af, t.sp, t.cycles, t.pc) =
      (0xAB00#16, 0x0000#16, 12, 0x0101#16) := by decide

/-- Vector ADD2. -/
theorem test_add_wraps :
    let t := after ((((start).setReg .a 0xFF#8).setReg .b 0x01#8).placeBytes 0x0100#16 [0x80#8])
    (t.reg .a, t.flags, t.cycles, t.pc) =
      (0x00#8, { z := true, n := false, h := true, c := true }, 4, 0x0101#16) := by decide

/-- Vector ADD4. -/
theorem test_add_a_a_half_carry :
    let t := after (((start).setReg .a 0x88#8).placeBytes 0x0100#16 [0x87#8])
    (t.reg .a, t.flags, t.cycles, t.pc) =
      (0x10#8, { z := false, n := false, h := true, c := true }, 4, 0x0101#16) := by decide

/-- Vector ADC2. -/
theorem test_adc_unclamped_carry :
    let t := after (((let s := ((start).setReg .a 0x00#8).setReg .b 0xFF#8; s.setFlags { s.flags with c := true })).placeBytes 0x0100#16 [0x88#8])
    (t.reg .a, t.flags, t.cycles, t.pc) =
      (0x00#8, { z := true, n := false, h := true, c := true }, 4, 0x0101#16) := by decide

/-- Vector SUB2. -/
theorem test_sub_borrows :
    let t := after ((((start).setReg .a 0x00#8).setReg .b 0x01#8).placeBytes 0x0100#16 [0x90#8])
    (t.reg .a, t.flags, t.cycles, t.pc) =
      (0xFF#8, { z := false, n := true, h := true, c := true }, 4, 0x0101#16) := by decide

/-- Vector SBC2. -/
theorem test_sbc_a_a_with_carry :
    let t := after (((let s := (start).setReg .a 0x5A#8; s.setFlags { s.flags with c := true })).placeBytes 0x0100#16 [0x9F#8])
    (t.reg .a, t.flags, t.cycles, t.pc) =
      (0xFF#8, { z := false, n := true, h := true, c := true }, 4, 0x0101#16) := by decide

/-- Vector SBC4. -/
theorem test_sbc_full_borrow :
    let t := after (((let s := ((start).setReg .a 0x10#8).setReg .b 0xFF#8; s.setFlags { s.flags with c := true })).placeBytes 0x0100#16 [0x98#8])
    (t.reg .a, t.flags, t.cycles, t.pc) =
      (0x10#8, { z := false, n := true, h := true, c := true }, 4, 0x0101#16) := by decide

/-- Vector AND2. -/
theorem test_and_imm_sets_half_carry :
    let t := after (((start).setReg .a 0xF0#8).placeBytes 0x0100#16 [0xE6#8, 0x0F#8])
    (t.reg .a, t.flags, t.cycles, t.pc) =
      (0x00#8, { z := true, n := false, h := true, c := false }, 8, 0x0102#16) := by decide

/-- Vector XOR1. -/
theorem test_xor_a_clears :
    let t := after ((((start).setReg .a 0x5A#8).setFlags ⟨false,true,true,true⟩).placeBytes 0x0100#16 [0xAF#8])
    (t.reg .a, t.flags, t.cycles, t.pc) =
      (0x00#8, { z := true, n := false, h := false, c := false }, 4, 0x0101#16) := by decide

/-- Vector OR1. -/
theorem test_or_zero :
    let t := after ((((start).setReg .a 0x00#8).setReg .b 0x00#8).placeBytes 0x0100#16 [0xB0#8])
    (t.reg .a, t.flags, t.cycles, t.pc) =
      (0x00#8, { z := true, n := false, h := false, c := false }, 4, 0x0101#16) := by decide

/-- Vector CP1. -/
theorem test_cp_keeps_a :
    let t := after ((((start).setReg .a 0x3C#8).setReg .b 0x40#8).placeBytes 0x0100#16 [0xB8#8])
    (t.reg .a, t.flags, t.cycles, t.pc) =
      (0x3C#8, { z := false, n := true, h := false, c := true }, 4, 0x0101#16) := by decide

/-- Vector CP4. -/
theorem test_cp_imm_equal :
    let t := after (((start).setReg .a 0x3C#8).placeBytes 0x0100#16 [0xFE#8, 0x3C#8])
    (t.reg .a, t.flags, t.cycles, t.pc) =
      (0x3C#8, { z := true, n := true, h := false, c := false }, 8, 0x0102#16) := by decide

/-- Vector INC1. -/
theorem test_inc_wraps_keeps_carry :
    let t := after (((let s := (start).setReg .a 0xFF#8; s.setFlags { s.flags with c := true })).placeBytes 0x0100#16 [0x3C#8])
    (t.reg .a, t.flags, t.cycles, t.pc) =
      (0x00#8, { z := true, n := false, h := true, c := true }, 4, 0x0101#16) := by decide

/-- Vector DEC2. -/
theorem test_dec_wraps :
    let t := after (((start).setReg .a 0x00#8).placeBytes 0x0100#16 [0x3D#8])
    (t.reg .a, t.flags, t.cycles, t.pc) =
      (0xFF#8, { z := false, n := true, h := true, c := false }, 4, 0x0101#16) := by decide

/-- Vector INC4. -/
theorem test_inc_at_hl :
    let t := after (((({ (start) with hl := 0xC000#16 } : State)).writeByte 0xC000#16 0xFF#8).placeBytes 0x0100#16 [0x34#8])
    (t.readByte 0xC000#16, t.flags, t.cycles, t.pc) =
      (0x00#8, { z := true, n := false, h := true, c := false }, 12, 0x0101#16) := by decide

/-- Vector DEC4. -/
theorem test_dec_at_hl_keeps_carry :
    let t := after (((let s := (({ (start) with hl := 0xC000#16 } : State)).writeByte 0xC000#16 0x01#8; s.setFlags { s.flags with c := true })).placeBytes 0x0100#16 [0x35#8])
    (t.readByte 0xC000#16, t.flags, t.cycles, t.pc) =
      (0x00#8, { z := true, n := true, h := false, c := true }, 12, 0x0101#16) := by decide

/-- Vector W1. -/
theorem test_add_hl_keeps_zero :
    let t := after (((let s := ({ (({ (start) with hl := 0x8A23#16 } : State)) with de := 0x0605#16 } : State); s.setFlags { s.flags with z := true })).placeBytes 0x0100#16 [0x19#8])
    (t.hl, t.flags, t.cycles, t.pc) =
      (0x9028#16, { z := true, n := false, h := true, c := false }, 8, 0x0101#16) := by decide

/-- Vector W4. -/
theorem test_add_hl_hl :
    let t := after ((({ (start) with hl := 0x8A23#16 } : State)).placeBytes 0x0100#16 [0x29#8])
    (t.hl, t.flags, t.cycles, t.pc) =
      (0x1446#16, { z := false, n := false, h := true, c := true }, 8, 0x0101#16) := by decide

/-- Vector W6. -/
theorem test_inc_bc_wraps_no_flag :
    let t := after (((({ (start) with bc := 0xFFFF#16 } : State)).setFlags ⟨true,true,true,true⟩).placeBytes 0x0100#16 [0x03#8])
    (t.bc, t.flags, t.cycles, t.pc) =
      (0x0000#16, { z := true, n := true, h := true, c := true }, 8, 0x0101#16) := by decide

/-- Vector W9. -/
theorem test_dec_sp_wraps :
    let t := after ((({ (start) with sp := 0x0000#16 } : State)).placeBytes 0x0100#16 [0x3B#8])
    (t.sp, t.flags, t.cycles, t.pc) =
      (0xFFFF#16, { z := false, n := false, h := false, c := false }, 8, 0x0101#16) := by decide

/-- Vector SPE2. -/
theorem test_add_sp_negative :
    let t := after ((({ (start) with sp := 0x0001#16 } : State)).placeBytes 0x0100#16 [0xE8#8, 0xFF#8])
    (t.sp, t.flags, t.cycles, t.pc) =
      (0x0000#16, { z := false, n := false, h := true, c := true }, 16, 0x0102#16) := by decide

/-- Vector SPE3. -/
theorem test_add_sp_no_carry :
    let t := after ((({ (start) with sp := 0x0000#16 } : State)).placeBytes 0x0100#16 [0xE8#8, 0xFF#8])
    (t.sp, t.flags, t.cycles, t.pc) =
      (0xFFFF#16, { z := false, n := false, h := false, c := false }, 16, 0x0102#16) := by decide

/-- Vector HLS2. -/
theorem test_ld_hl_sp_clears_flags :
    let t := after (((({ (start) with sp := 0x1234#16 } : State)).setFlags ⟨true,true,true,true⟩).placeBytes 0x0100#16 [0xF8#8, 0x00#8])
    (t.hl, t.flags, t.cycles, t.pc) =
      (0x1234#16, { z := false, n := false, h := false, c := false }, 12, 0x0102#16) := by decide

/-- Vector LD1. -/
theorem test_nop :
    let t := after ((start).placeBytes 0x0100#16 [0x00#8])
    (t.pc, t.cycles) =
      (0x0101#16, 4) := by decide

/-- Vector LD2. -/
theorem test_ld_bc_little_endian :
    let t := after ((start).placeBytes 0x0100#16 [0x01#8, 0x34#8, 0x12#8])
    (t.bc, t.pc, t.cycles) =
      (0x1234#16, 0x0103#16, 12) := by decide

/-- Vector LD4. -/
theorem test_ld_at_hl_imm :
    let t := after ((({ (start) with hl := 0xC000#16 } : State)).placeBytes 0x0100#16 [0x36#8, 0xAB#8])
    (t.readByte 0xC000#16, t.cycles, t.pc) =
      (0xAB#8, 12, 0x0102#16) := by decide

/-- Vector LD5. -/
theorem test_ld_at_bc_a :
    let t := after ((({ ((start).setReg .a 0x5A#8) with bc := 0xC000#16 } : State)).placeBytes 0x0100#16 [0x02#8])
    (t.readByte 0xC000#16, t.cycles, t.pc) =
      (0x5A#8, 8, 0x0101#16) := by decide

/-- Vector LD7. -/
theorem test_store_hl_inc_wraps :
    let t := after ((({ ((start).setReg .a 0x5A#8) with hl := 0xFFFF#16 } : State)).placeBytes 0x0100#16 [0x22#8])
    (t.readByte 0xFFFF#16, t.hl, t.cycles, t.pc) =
      (0x5A#8, 0x0000#16, 8, 0x0101#16) := by decide

/-- Vector LD8. -/
theorem test_store_hl_dec_wraps :
    let t := after ((({ ((start).setReg .a 0x5A#8) with hl := 0x0000#16 } : State)).placeBytes 0x0100#16 [0x32#8])
    (t.readByte 0x0000#16, t.hl, t.cycles, t.pc) =
      (0x5A#8, 0xFFFF#16, 8, 0x0101#16) := by decide

/-- Vector LD10. -/
theorem test_load_hl_dec :
    let t := after (((({ (start) with hl := 0xC001#16 } : State)).writeByte 0xC001#16 0x05#8).placeBytes 0x0100#16 [0x3A#8])
    (t.reg .a, t.hl, t.cycles, t.pc) =
      (0x05#8, 0xC000#16, 8, 0x0101#16) := by decide

/-- Vector LD11. -/
theorem test_ld_h_at_hl_address_first :
    let t := after (((({ (start) with hl := 0xC010#16 } : State)).writeByte 0xC010#16 0x20#8).placeBytes 0x0100#16 [0x66#8])
    (t.hl, t.cycles, t.pc) =
      (0x2010#16, 8, 0x0101#16) := by decide

/-- Vector LD12. -/
theorem test_ld_at_hl_h :
    let t := after ((({ (start) with hl := 0xC010#16 } : State)).placeBytes 0x0100#16 [0x74#8])
    (t.readByte 0xC010#16, t.cycles, t.pc) =
      (0xC0#8, 8, 0x0101#16) := by decide

/-- Vector LD14. -/
theorem test_store_sp_wraps :
    let t := after ((({ (start) with sp := 0x1234#16 } : State)).placeBytes 0x0100#16 [0x08#8, 0xFF#8, 0xFF#8])
    (t.readByte 0xFFFF#16, t.readByte 0x0000#16, t.cycles, t.pc) =
      (0x34#8, 0x12#8, 20, 0x0103#16) := by decide

/-- Vector LD15. -/
theorem test_ldh_at_a8 :
    let t := after (((start).setReg .a 0x77#8).placeBytes 0x0100#16 [0xE0#8, 0x80#8])
    (t.readByte 0xFF80#16, t.pc, t.cycles) =
      (0x77#8, 0x0102#16, 12) := by decide

/-- Vector LD18. -/
theorem test_ldh_a_at_c :
    let t := after ((((start).setReg .c 0x00#8).writeByte 0xFF00#16 0xCF#8).placeBytes 0x0100#16 [0xF2#8])
    (t.reg .a, t.cycles, t.pc) =
      (0xCF#8, 8, 0x0101#16) := by decide

/-- Vector LD19. -/
theorem test_ld_at_a16_a :
    let t := after (((start).setReg .a 0x37#8).placeBytes 0x0100#16 [0xEA#8, 0x00#8, 0xC0#8])
    (t.readByte 0xC000#16, t.pc, t.cycles) =
      (0x37#8, 0x0103#16, 16) := by decide

/-- Vector LD21. -/
theorem test_ld_sp_hl :
    let t := after ((({ (start) with hl := 0xDFFF#16 } : State)).placeBytes 0x0100#16 [0xF9#8])
    (t.sp, t.cycles, t.pc) =
      (0xDFFF#16, 8, 0x0101#16) := by decide

/-- Vector ST3. -/
theorem test_pop_af_takes_flags :
    let t := after ((((start).writeByte 0xFFFE#16 0xFF#8).writeByte 0xFFFF#16 0x12#8).placeBytes 0x0100#16 [0xF1#8])
    (t.af, t.sp, t.cycles, t.pc) =
      (0x12F0#16, 0x0000#16, 12, 0x0101#16) := by decide

/-- Vector ST4. -/
theorem test_push_af :
    let t := after ((((start).setReg .a 0x12#8).setF 0xB0#8).placeBytes 0x0100#16 [0xF5#8])
    (t.readByte 0xFFFC#16, t.readByte 0xFFFD#16, t.cycles, t.pc) =
      (0xB0#8, 0x12#8, 16, 0x0101#16) := by decide

/-- Vector ST5. -/
theorem test_push_wraps :
    let t := after ((({ (({ (start) with bc := 0xBEEF#16 } : State)) with sp := 0x0001#16 } : State)).placeBytes 0x0100#16 [0xC5#8])
    (t.readByte 0x0000#16, t.readByte 0xFFFF#16, t.sp, t.cycles, t.pc) =
      (0xBE#8, 0xEF#8, 0xFFFF#16, 16, 0x0101#16) := by decide

/-- Vector ST6. -/
theorem test_pop_wraps :
    let t := after ((((({ (start) with sp := 0xFFFF#16 } : State)).writeByte 0xFFFF#16 0x34#8).writeByte 0x0000#16 0x12#8).placeBytes 0x0100#16 [0xC1#8])
    (t.bc, t.sp, t.cycles, t.pc) =
      (0x1234#16, 0x0001#16, 12, 0x0101#16) := by decide

/-- Vector JP1. -/
theorem test_jp :
    let t := after ((start).placeBytes 0x0100#16 [0xC3#8, 0x50#8, 0x01#8])
    (t.pc, t.cycles) =
      (0x0150#16, 16) := by decide

/-- Vector JP2. -/
theorem test_jp_nz_not_taken :
    let t := after (((let s := start; s.setFlags { s.flags with z := true })).placeBytes 0x0100#16 [0xC2#8, 0x00#8, 0x20#8])
    (t.pc, t.cycles) =
      (0x0103#16, 12) := by decide

/-- Vector JP4. -/
theorem test_jp_hl :
    let t := after ((({ (start) with hl := 0x4000#16 } : State)).placeBytes 0x0100#16 [0xE9#8])
    (t.pc, t.cycles) =
      (0x4000#16, 4) := by decide

/-- Vector JP8. -/
theorem test_jr_nc_back :
    let t := after (((let s := start; s.setFlags { s.flags with c := false })).placeBytes 0x0100#16 [0x30#8, 0x80#8])
    (t.pc, t.cycles) =
      (0x0082#16, 12) := by decide

/-- Vector JP9. -/
theorem test_jr_wraps :
    let t := after ((({ (start) with pc := 0x0000#16 } : State)).placeBytes 0x0000#16 [0x18#8, 0xFD#8])
    (t.pc, t.cycles) =
      (0xFFFF#16, 12) := by decide

/-- Vector JP10. -/
theorem test_jp_fetch_wraps :
    let t := after ((({ (start) with pc := 0xFFFE#16 } : State)).placeBytes 0xfffe#16 [0xC3#8, 0x34#8, 0x12#8])
    (t.pc, t.cycles) =
      (0x1234#16, 16) := by decide

/-- Vector CALL1. -/
theorem test_call :
    let t := after ((start).placeBytes 0x0100#16 [0xCD#8, 0x00#8, 0x02#8])
    (t.sp, t.readByte 0xFFFC#16, t.readByte 0xFFFD#16, t.pc, t.cycles) =
      (0xFFFC#16, 0x03#8, 0x01#8, 0x0200#16, 24) := by decide

/-- Vector CALL2. -/
theorem test_call_c_not_taken :
    let t := after (((let s := start; s.setFlags { s.flags with c := false })).placeBytes 0x0100#16 [0xDC#8, 0x00#8, 0x02#8])
    (t.pc, t.sp, t.cycles) =
      (0x0103#16, 0xFFFE#16, 12) := by decide

/-- Vector RET2. -/
theorem test_ret_z_taken :
    let t := after (((let s := ((({ (start) with sp := 0xFFFC#16 } : State)).writeByte 0xFFFC#16 0x53#8).writeByte 0xFFFD#16 0x01#8; s.setFlags { s.flags with z := true })).placeBytes 0x0100#16 [0xC8#8])
    (t.pc, t.sp, t.cycles) =
      (0x0153#16, 0xFFFE#16, 20) := by decide

/-- Vector RET3. -/
theorem test_ret_z_not_taken :
    let t := after (((let s := ((({ (start) with sp := 0xFFFC#16 } : State)).writeByte 0xFFFC#16 0x53#8).writeByte 0xFFFD#16 0x01#8; s.setFlags { s.flags with z := false })).placeBytes 0x0100#16 [0xC8#8])
    (t.pc, t.sp, t.cycles) =
      (0x0101#16, 0xFFFC#16, 8) := by decide

/-- Vector RET4. -/
theorem test_reti_sets_ime :
    let t := after ((({ (((({ (start) with sp := 0xFFFC#16 } : State)).writeByte 0xFFFC#16 0x53#8).writeByte 0xFFFD#16 0x01#8) with ime := false } : State)).placeBytes 0x0100#16 [0xD9#8])
    (t.pc, t.sp, t.ime, t.cycles) =
      (0x0153#16, 0xFFFE#16, true, 16) := by decide

/-- Vector RST2. -/
theorem test_rst_38 :
    let t := after ((start).placeBytes 0x0100#16 [0xFF#8])
    (t.sp, t.readByte 0xFFFC#16, t.readByte 0xFFFD#16, t.pc, t.cycles) =
      (0xFFFC#16, 0x01#8, 0x01#8, 0x0038#16, 16) := by decide

/-- Vector CB2. -/
theorem test_rlc_b_zero :
    let t := after (((let s := (start).setReg .b 0x00#8; s.setFlags { s.flags with c := true })).placeBytes 0x0100#16 [0xCB#8, 0x00#8])
    (t.reg .b, t.flags, t.cycles, t.pc) =
      (0x00#8, { z := true, n := false, h := false, c := false }, 8, 0x0102#16) := by decide

/-- Vector CB5. -/
theorem test_rl_a_carry_in :
    let t := after (((let s := (start).setReg .a 0x80#8; s.setFlags { s.flags with c := true })).placeBytes 0x0100#16 [0xCB#8, 0x17#8])
    (t.reg .a, t.flags, t.cycles, t.pc) =
      (0x01#8, { z := false, n := false, h := false, c := true }, 8, 0x0102#16) := by decide

/-- Vector CB6. -/
theorem test_rr_a_zero :
    let t := after (((let s := (start).setReg .a 0x01#8; s.setFlags { s.flags with c := false })).placeBytes 0x0100#16 [0xCB#8, 0x1F#8])
    (t.reg .a, t.flags, t.cycles, t.pc) =
      (0x00#8, { z := true, n := false, h := false, c := true }, 8, 0x0102#16) := by decide

/-- Vector CB10. -/
theorem test_sra_keeps_sign :
    let t := after (((start).setReg .a 0x8A#8).placeBytes 0x0100#16 [0xCB#8, 0x2F#8])
    (t.reg .a, t.flags, t.cycles, t.pc) =
      (0xC5#8, { z := false, n := false, h := false, c := false }, 8, 0x0102#16) := by decide

/-- Vector CB13. -/
theorem test_swap_a :
    let t := after ((((start).setReg .a 0xF1#8).setFlags ⟨false,true,true,true⟩).placeBytes 0x0100#16 [0xCB#8, 0x37#8])
    (t.reg .a, t.flags, t.cycles, t.pc) =
      (0x1F#8, { z := false, n := false, h := false, c := false }, 8, 0x0102#16) := by decide

/-- Vector CB15. -/
theorem test_srl_a :
    let t := after (((start).setReg .a 0xFF#8).placeBytes 0x0100#16 [0xCB#8, 0x3F#8])
    (t.reg .a, t.flags, t.cycles, t.pc) =
      (0x7F#8, { z := false, n := false, h := false, c := true }, 8, 0x0102#16) := by decide

/-- Vector CB17. -/
theorem test_rlc_at_hl :
    let t := after (((({ (start) with hl := 0xC000#16 } : State)).writeByte 0xC000#16 0x80#8).placeBytes 0x0100#16 [0xCB#8, 0x06#8])
    (t.readByte 0xC000#16, t.flags, t.cycles, t.pc) =
      (0x01#8, { z := false, n := false, h := false, c := true }, 16, 0x0102#16) := by decide

/-- Vector CBB1. -/
theorem test_bit_keeps_carry :
    let t := after (((let s := (start).setReg .h 0x80#8; s.setFlags { s.flags with c := true })).placeBytes 0x0100#16 [0xCB#8, 0x7C#8])
    (t.reg .h, t.flags, t.cycles, t.pc) =
      (0x80#8, { z := false, n := false, h := true, c := true }, 8, 0x0102#16) := by decide

/-- Vector CBB3. -/
theorem test_bit_at_hl_costs_12 :
    let t := after (((({ (start) with hl := 0xC000#16 } : State)).writeByte 0xC000#16 0xF7#8).placeBytes 0x0100#16 [0xCB#8, 0x5E#8])
    (t.readByte 0xC000#16, t.flags, t.cycles, t.pc) =
      (0xF7#8, { z := true, n := false, h := true, c := false }, 12, 0x0102#16) := by decide

/-- Vector CBB5. -/
theorem test_res_at_hl :
    let t := after (((({ (start) with hl := 0xC000#16 } : State)).writeByte 0xC000#16 0xFF#8).placeBytes 0x0100#16 [0xCB#8, 0xBE#8])
    (t.readByte 0xC000#16, t.flags, t.cycles, t.pc) =
      (0x7F#8, { z := false, n := false, h := false, c := false }, 16, 0x0102#16) := by decide

/-- Vector CBB6. -/
theorem test_set_at_hl :
    let t := after (((({ (start) with hl := 0xC000#16 } : State)).writeByte 0xC000#16 0x00#8).placeBytes 0x0100#16 [0xCB#8, 0xFE#8])
    (t.readByte 0xC000#16, t.flags, t.cycles, t.pc) =
      (0x80#8, { z := false, n := false, h := false, c := false }, 16, 0x0102#16) := by decide

/-- Vector MS2. -/
theorem test_rlca_clears_zero :
    let t := after (((let s := (start).setReg .a 0x00#8; s.setFlags { s.flags with z := true })).placeBytes 0x0100#16 [0x07#8])
    (t.reg .a, t.flags, t.cycles, t.pc) =
      (0x00#8, { z := false, n := false, h := false, c := false }, 4, 0x0101#16) := by decide

/-- Vector MS4. -/
theorem test_rla :
    let t := after (((let s := (start).setReg .a 0x95#8; s.setFlags { s.flags with c := true })).placeBytes 0x0100#16 [0x17#8])
    (t.reg .a, t.flags, t.cycles, t.pc) =
      (0x2B#8, { z := false, n := false, h := false, c := true }, 4, 0x0101#16) := by decide

/-- Vector MS15. -/
theorem test_daa_non_bcd :
    let t := after ((((start).setReg .a 0x9A#8).setFlags ⟨false,false,false,false⟩).placeBytes 0x0100#16 [0x27#8])
    (t.reg .a, t.flags, t.cycles, t.pc) =
      (0x00#8, { z := true, n := false, h := false, c := true }, 4, 0x0101#16) := by decide

/-- Vector MS16. -/
theorem test_cpl :
    let t := after ((((start).setReg .a 0x35#8).setFlags ⟨true,false,false,true⟩).placeBytes 0x0100#16 [0x2F#8])
    (t.reg .a, t.flags, t.cycles, t.pc) =
      (0xCA#8, { z := true, n := true, h := true, c := true }, 4, 0x0101#16) := by decide

/-- Vector MS19. -/
theorem test_ccf :
    let t := after (((start).setFlags ⟨true,false,false,true⟩).placeBytes 0x0100#16 [0x3F#8])
    (t.flags, t.cycles, t.pc) =
      ({ z := true, n := false, h := false, c := false }, 4, 0x0101#16) := by decide

/-- Vector EI2, first step: IME is still 0. -/
theorem test_ei_is_delayed :
    let t := after (program [0xFB#8, 0x00#8] start)
    (t.ime, t.eiPending, t.cycles) = (false, true, 4) := by decide

/-- Vector EI2, second step, from the state EI leaves. -/
theorem test_ei_takes_effect_after_next :
    let t := after (program [0x00#8] { start with eiPending := true })
    (t.ime, t.eiPending) = (true, false) := by decide

/-- Vector EI3, second step: the DI cancels the EI. -/
theorem test_di_cancels_ei :
    let t := after (program [0xF3#8] { start with eiPending := true })
    (t.ime, t.eiPending) = (false, false) := by decide

/-- Vector HS1, first step. -/
theorem test_halt :
    let t := after (program [0x76#8] start)
    (t.mode, t.haltBug, t.pc, t.cycles) = (.halted, false, 0x0101#16, 4) := by decide

/-- Vector HS3, first step: HALT with IME = 0 and an interrupt pending. -/
theorem test_halt_bug_is_armed :
    let t := after (program [0x76#8] (interrupts 0x01#8 0x01#8 start))
    (t.mode, t.haltBug, t.pc) = (.run, true, 0x0101#16) := by decide

/-- Vector HS4, second step: the immediate is the opcode byte read again. -/
theorem test_halt_bug_repeats_the_byte :
    let t := after (program [0x3E#8, 0x14#8] { start with haltBug := true })
    (t.reg .a, t.pc, t.haltBug) = (0x3E#8, 0x0101#16, false) := by decide

/-- Vector HS5, third step: the pushed return address is the HALT's own. -/
theorem test_interrupt_with_halt_bug :
    let t := after (interrupts 0x01#8 0x01#8 { start with haltBug := true, ime := true, pc := 0x0102#16 })
    (t.pc, t.readByte 0xFFFC#16, t.readByte 0xFFFD#16, t.haltBug) = (0x0040#16, 0x01#8, 0x01#8, false) := by decide

/-- Vector HS6, first step. -/
theorem test_stop :
    let t := after (program [0x10#8, 0x00#8] start)
    (t.mode, t.pc, t.cycles) = (.stopped, 0x0102#16, 4) := by decide

/-- Vector HS6, second step: a stopped core idles even with an interrupt pending. -/
theorem test_stopped_idles :
    let t := after (interrupts 0x01#8 0x01#8 { start with mode := .stopped, ime := true })
    (t.mode, t.pc, t.cycles) = (.stopped, 0x0100#16, 4) := by decide

/-- Vector FLT1. -/
theorem test_illegal_opcode :
    stepReturn (program [0xD3#8] start) = some (.faulted (.illegalOpcode 0x0100#16 0xD3#8)) ∧
    (after (program [0xD3#8] start)).pc = 0x0101#16 ∧ (after (program [0xD3#8] start)).cycles = 0 := by decide

/-- Vector FLT2: the second step reports the same fault. -/
theorem test_fault_is_sticky :
    stepReturn (after (program [0xD3#8] start)) = some (.faulted (.illegalOpcode 0x0100#16 0xD3#8)) := by decide

/-- Vector INT1. -/
theorem test_interrupt_entry :
    let t := after (interrupts 0x01#8 0x01#8 { start with ime := true })
    (t.pc, t.sp, t.readByte 0xFFFD#16, t.readByte 0xFFFC#16, t.readByte 0xFF0F#16, t.ime, t.cycles) =
      (0x0040#16, 0xFFFC#16, 0x01#8, 0x00#8, 0x00#8, false, 20) := by decide

/-- Vector INT3. -/
theorem test_lowest_interrupt_first :
    let t := after (interrupts 0x1F#8 0x18#8 { start with ime := true })
    (t.pc, t.readByte 0xFF0F#16) = (0x0058#16, 0x10#8) := by decide

/-- Vector INT5: bits 7..5 are ignored. -/
theorem test_high_bits_of_if_are_ignored :
    let t := after (interrupts 0xE0#8 0xE0#8 { start with ime := true })
    (t.pc, t.cycles) = (0x0101#16, 4) := by decide

/-- Vector CBB7: 0xCB is an ordinary second byte. -/
theorem test_set_1_e :
    let t := after (program [0xCB#8, 0xCB#8] start)
    (t.reg .e, t.pc, t.cycles) = (0x02#8, 0x0102#16, 8) := by decide

/-! ## Words of the opcode table -/

theorem test_table_word_of_ld_b_n8 : decodeTableWord 8 0x06 = some (.ldBN8 0x00#8) := by decide

theorem test_table_word_of_prefix : decodeTableWord 8 0xCB = some .prefixCb := by decide

theorem test_table_word_of_swap_a : decodeTableWord 16 0xCB37 = some .swapA := by decide

/-- The word is placed where the next step fetches, prefix byte first. -/
theorem test_fetch_word_runs :
    let t := after ((State.reset.setReg .a 0xF1#8).withFetchWord 16 0xCB37)
    (t.reg .a, t.pc) = (0x1F#8, 0x0102#16) := by decide

/-! ## The hypotheses of the statements are met -/

/-- A step from `s` answers a next state. -/
def answers (s : State) : Bool :=
  match step s with
  | .next _ => true
  | .fault _ => false
  | .refused _ => false

theorem next_of_answers {s : State} (h : answers s = true) : step s = .next (after s) := by
  unfold answers at h
  unfold after
  cases hs : step s <;> simp [hs] at h ⊢

theorem runs_of_head {s : State} {i : Instr} {rest : List Byte} (awake : s.fault = none ∧ s.mode = .run)
    (quiet : (s.ime && s.pending != 0x00#8) = false) (h : decode s.streamBytes = .ok (i, rest)) : s.Runs i :=
  ⟨⟨awake.1, .inl awake.2⟩, fun due => absurd quiet (by simp [due.1, due.2]), rest, h⟩

/-- The start state with values in its registers, its flags set and an INC A at PC. -/
def busy : State :=
  { start with
    af := 0x5AF0#16, bc := 0x1234#16, de := 0x0FF0#16, hl := 0xC000#16, sp := 0xFFFE#16, cycles := 7
    mem := [(0x0100, 0x3C#8)] }

theorem busy_meets_invariant : busy.Inv where
  memory := by decide
  lowNibble := by decide
  haltBug := by decide
  fault := fun _ _ h => nomatch h

theorem meets_decode_of_encode : Instr.WellFormed (.ldHlN16 0xFFFF#16) := by decide

theorem meets_illegal_rows : (Instr.illegalFD, 0xFD#8) ∈ illegalRows ∧ decodeWindow 0xFD#8 0xFF#8 0xFF#8 = .illegalFD :=
  ⟨by decide, rfl⟩

theorem meets_equal_reads :
    Memory.wf busy.mem = true ∧ Memory.wf ({ busy with pc := 0x0000#16 } : State).mem = true ∧
      ∀ a : Word16, busy.readByte a = ({ busy with pc := 0x0000#16 } : State).readByte a :=
  ⟨by decide, by decide, fun _ => rfl⟩

theorem meets_view_of_another_register : Reg8.b ≠ Reg8.c := by decide

/-- An image that names address 0xFFFF twice, and then another. -/
theorem meets_create_named_last : ∀ cell ∈ [((0x0000#16 : Word16), (0x01#8 : Byte))], cell.1 ≠ 0xFFFF#16 := by simp

theorem test_create_named_last :
    (State.create ([(0xFFFF#16, 0x02#8)] ++ (0xFFFF#16, 0x03#8) :: [(0x0000#16, 0x01#8)]) 0x0100#16 0x0000#16).readByte 0xFFFF#16 =
      0x03#8 := by decide

/-- The address just above the one an image names; and any address under the empty image. -/
theorem meets_create_unnamed : ∀ cell ∈ [((0xFFFE#16 : Word16), (0x01#8 : Byte))], cell.1 ≠ 0xFFFF#16 := by simp

theorem meets_create_empty : ∀ cell ∈ ([] : List (Word16 × Byte)), cell.1 ≠ 0x0000#16 := by simp

theorem meets_step_keeps_invariant : busy.Inv ∧ ∃ t : State, step busy = .next t := ⟨busy_meets_invariant, _, next_of_answers (by decide)⟩

theorem meets_runs_nop : (program [0x00#8] busy).Runs .nop := runs_of_head ⟨rfl, rfl⟩ rfl rfl

/-- Under the halt bug the first byte is read twice. -/
theorem meets_runs_with_halt_bug : (program [0x3E#8, 0x14#8] { busy with haltBug := true }).Runs (.ldAN8 0x3E#8) :=
  runs_of_head ⟨rfl, rfl⟩ rfl rfl

/-- A halted core that an interrupt wakes with IME = 0 runs the instruction at PC. -/
theorem meets_runs_after_halted : (interrupts 0x10#8 0x10#8 { busy with mode := .halted }).Runs .incA :=
  ⟨⟨rfl, .inr ⟨rfl, by decide⟩⟩, fun due => Bool.noConfusion due.1, _, rfl⟩

/-- The longest instruction at the top of memory. -/
theorem meets_runs_across_the_wrap :
    ((({ busy with pc := 0xFFFE#16 } : State).placeBytes 0xFFFE#16 [0xC3#8, 0x34#8, 0x12#8])).Runs (.jpA16 0x1234#16) :=
  runs_of_head ⟨rfl, rfl⟩ rfl rfl

theorem meets_ei_then_nop :
    (program [0x00#8] { busy with eiPending := true }).Runs .nop ∧
    (program [0x00#8] { busy with eiPending := true }).eiPending = true ∧
    (∀ b : Byte, (Instr.nop, b) ∉ illegalRows) ∧ Instr.nop ≠ .di :=
  ⟨runs_of_head ⟨rfl, rfl⟩ rfl rfl, rfl, by simp [illegalRows], by decide⟩

theorem meets_ei_then_di : (program [0xF3#8] { busy with eiPending := true }).Runs .di := runs_of_head ⟨rfl, rfl⟩ rfl rfl

theorem meets_runs_illegal : (program [0xED#8] busy).Runs .illegalED ∧ (Instr.illegalED, 0xED#8) ∈ illegalRows :=
  ⟨runs_of_head ⟨rfl, rfl⟩ rfl rfl, by decide⟩

theorem meets_idle_stopped : ({ busy with mode := .stopped } : State).Idle := ⟨rfl, .inl rfl⟩

theorem meets_idle_halted : ({ busy with mode := .halted } : State).Idle := ⟨rfl, .inr ⟨rfl, by decide⟩⟩

/-- The lowest source of all five. -/
theorem meets_interrupt_lowest :
    (interrupts 0xFF#8 0xFF#8 { busy with ime := true }).Awake ∧
    (interrupts 0xFF#8 0xFF#8 { busy with ime := true }).InterruptDue := ⟨⟨rfl, .inl rfl⟩, rfl, by decide⟩

/-- The highest source alone, with a halted core and an armed halt bug. -/
theorem meets_interrupt_highest :
    (interrupts 0x10#8 0x10#8 { busy with ime := true, mode := .halted }).Awake ∧
    (interrupts 0x10#8 0x10#8 { busy with ime := true, mode := .halted }).InterruptDue :=
  ⟨⟨rfl, .inr ⟨rfl, by decide⟩⟩, rfl, by decide⟩

/-- The stack slot clear of IF, and one that covers it. -/
theorem meets_interrupt_if_clause :
    busy.sp - 1#16 ≠ 0xFF0F#16 ∧ busy.sp - 2#16 ≠ 0xFF0F#16 ∧
      ({ busy with sp := 0xFF10#16 } : State).sp - 1#16 = 0xFF0F#16 := by decide

theorem meets_wake_clauses :
    ({ busy with mode := .stopped } : State).mode = .stopped ∧ ({ busy with mode := .halted } : State).mode ≠ .stopped := by
  decide

theorem meets_host_keeps_invariant : busy.Inv := busy_meets_invariant

theorem meets_fault_is_sticky :
    ({ busy with fault := some (.illegalOpcode 0x0100#16 0xD3#8) } : State).fault =
      some (.illegalOpcode 0x0100#16 0xD3#8) := rfl

theorem meets_step_answers : busy.fault = none := rfl

theorem meets_only_illegal_bytes_fault :
    (program [0xD3#8] busy).fault = none ∧ ∃ t : State, step (program [0xD3#8] busy) = .next t ∧ t.fault ≠ none :=
  ⟨rfl, _, rfl, by decide⟩

theorem meets_subtract_rows :
    (AluOp.sub, 2) ∈ [(AluOp.sub, 2), (AluOp.sbc, 3), (AluOp.cp, 7)] ∧
    (AluOp.cp, 7) ∈ [(AluOp.sub, 2), (AluOp.sbc, 3), (AluOp.cp, 7)] := by decide

theorem meets_logic_rows :
    (AluOp.and, 4) ∈ [(AluOp.and, 4), (AluOp.xor, 5), (AluOp.or, 6)] ∧
    (AluOp.or, 6) ∈ [(AluOp.and, 4), (AluOp.xor, 5), (AluOp.or, 6)] := by decide

theorem meets_rotate_rows :
    (Instr.rlca, RotOp.rlc) ∈ [(Instr.rlca, RotOp.rlc), (.rrca, .rrc), (.rla, .rl), (.rra, .rr)] ∧
    (Instr.rra, RotOp.rr) ∈ [(Instr.rlca, RotOp.rlc), (.rrca, .rrc), (.rla, .rl), (.rra, .rr)] := by decide

theorem meets_push_af : busy.Inv := busy_meets_invariant

theorem meets_stack_round_trip :
    busy.Inv ∧ ∃ t u : State, exec (Instr.mkPush .bc) busy = .next t ∧ exec (Instr.mkPop .af) t = .next u :=
  ⟨busy_meets_invariant, _, _, rfl, rfl⟩

theorem meets_call_round_trip :
    ∃ t u : State, exec (.callA16 0xFFFF#16) busy = .next t ∧ exec .ret t = .next u := ⟨_, _, rfl, rfl⟩

/-- The largest operands: 99 + 99. -/
theorem meets_decimal_addition :
    (99 < 100 ∧ (busy.setReg .a 0x99#8).reg .a = bcd 99) ∧
    ∃ t u : State, exec (.addAN8 (bcd 99)) (busy.setReg .a 0x99#8) = .next t ∧ exec .daa t = .next u :=
  ⟨by decide, _, _, rfl, rfl⟩

/-- The borrow: 0 - 1. -/
theorem meets_decimal_subtraction :
    (0 < 100 ∧ (busy.setReg .a 0x00#8).reg .a = bcd 0) ∧
    ∃ t u : State, exec (.subN8 (bcd 1)) (busy.setReg .a 0x00#8) = .next t ∧ exec .daa t = .next u :=
  ⟨by decide, _, _, rfl, rfl⟩

theorem meets_halted_idle :
    ({ busy with mode := .halted } : State).fault = none ∧ ({ busy with mode := .halted } : State).mode = .halted ∧
    ({ busy with mode := .halted } : State).pending = 0x00#8 := by decide

theorem meets_halted_wakes :
    (interrupts 0x10#8 0x10#8 { busy with mode := .halted }).fault = none ∧
    (interrupts 0x10#8 0x10#8 { busy with mode := .halted }).mode = .halted ∧
    (interrupts 0x10#8 0x10#8 { busy with mode := .halted }).pending ≠ 0x00#8 := by decide

theorem meets_stopped :
    ({ busy with mode := .stopped } : State).fault = none ∧ ({ busy with mode := .stopped } : State).mode = .stopped := by
  decide

/-- The state an EI leaves runs the instruction after it. -/
theorem meets_runs_after_ei :
    ∃ t : State, exec .ei (program [0xFB#8, 0x3C#8] busy) = .next t ∧ t.Runs .incA ∧ Instr.incA ≠ .di ∧
      ∀ b : Byte, (Instr.incA, b) ∉ illegalRows :=
  ⟨_, rfl, runs_of_head ⟨rfl, rfl⟩ rfl rfl, by decide, by simp [illegalRows]⟩

theorem meets_costs : Instr.WellFormed (.callNzA16 0x0000#16) ∧ Instr.WellFormed .illegalD3 := by decide

theorem meets_pc_advances :
    Instr.WellFormed (.ldAtA16Sp 0xFFFF#16) ∧
      (∃ t : State, exec (.ldAtA16Sp 0xFFFF#16) busy = .next t) ∧
      ∀ b ∈ transferBytes, (Instr.ldAtA16Sp 0xFFFF#16).encode.head? ≠ some b := ⟨by decide, ⟨_, rfl⟩, by decide⟩

theorem meets_ime_set_by_reti :
    ∃ t : State, step (program [0xD9#8] busy) = .next t ∧ t.ime ≠ (program [0xD9#8] busy).ime := ⟨_, rfl, by decide⟩

theorem meets_ime_cleared_by_di :
    ∃ t : State, step (program [0xF3#8] { busy with ime := true }) = .next t ∧
      t.ime ≠ (program [0xF3#8] { busy with ime := true }).ime := ⟨_, rfl, by decide⟩

theorem meets_ime_set_by_ei :
    ∃ t : State, step (program [0x00#8] { busy with eiPending := true }) = .next t ∧
      t.ime ≠ (program [0x00#8] { busy with eiPending := true }).ime := ⟨_, rfl, by decide⟩

theorem meets_ime_cleared_by_interrupt :
    ∃ t : State, step (interrupts 0x01#8 0x01#8 { busy with ime := true }) = .next t ∧
      t.ime ≠ (interrupts 0x01#8 0x01#8 { busy with ime := true }).ime := ⟨_, rfl, by decide⟩

theorem meets_mode_changed_by_halt :
    ∃ t : State, step (program [0x76#8] busy) = .next t ∧ t.mode ≠ (program [0x76#8] busy).mode := ⟨_, rfl, by decide⟩

theorem meets_mode_changed_by_stop :
    ∃ t : State, step (program [0x10#8, 0xFF#8] busy) = .next t ∧ t.mode ≠ (program [0x10#8, 0xFF#8] busy).mode :=
  ⟨_, rfl, by decide⟩

theorem meets_mode_changed_by_waking :
    ∃ t : State, step (interrupts 0x10#8 0x10#8 { busy with mode := .halted }) = .next t ∧
      t.mode ≠ (interrupts 0x10#8 0x10#8 { busy with mode := .halted }).mode := ⟨_, rfl, by decide⟩

/-- A safe run of three steps. -/
theorem meets_safe_run : SafeFor 3 busy :=
  ⟨rfl, _, next_of_answers (by decide), by decide, _, next_of_answers (by decide), by decide, _,
    next_of_answers (by decide),
    (by decide : (after (after (after busy))).fault = none)⟩

end Sys2Proof.Tests
end

section
/-! SUPPORT. The decoder reads each instruction from its bytes. What an instruction does to the core's
control state (interrupts, run mode, halt bug, fault), with the states of the instructions that `ControlsCore` names written out. -/

namespace Sys2Proof.Machine

open Sys2Proof.Claims

/-! ## The bytes of an instruction select it -/

/-- The laws of Laws/PerInstr.lean as one: every whole instruction is decoded from its own bytes, whatever follows
them. -/
theorem decodesFromWindow (i : Instr) : Laws.DecodesFromWindow.Statement i := by
  cases i with
  | prefixCb => exact fun wf => absurd rfl wf
  | ldBcN16 n16 => exact Laws.DecodesFromWindow.ldBcN16 n16
  | ldAtA16Sp a16 => exact Laws.DecodesFromWindow.ldAtA16Sp a16
  | ldDeN16 n16 => exact Laws.DecodesFromWindow.ldDeN16 n16
  | ldHlN16 n16 => exact Laws.DecodesFromWindow.ldHlN16 n16
  | ldSpN16 n16 => exact Laws.DecodesFromWindow.ldSpN16 n16
  | jpNzA16 a16 => exact Laws.DecodesFromWindow.jpNzA16 a16
  | jpA16 a16 => exact Laws.DecodesFromWindow.jpA16 a16
  | callNzA16 a16 => exact Laws.DecodesFromWindow.callNzA16 a16
  | jpZA16 a16 => exact Laws.DecodesFromWindow.jpZA16 a16
  | callZA16 a16 => exact Laws.DecodesFromWindow.callZA16 a16
  | callA16 a16 => exact Laws.DecodesFromWindow.callA16 a16
  | jpNcA16 a16 => exact Laws.DecodesFromWindow.jpNcA16 a16
  | callNcA16 a16 => exact Laws.DecodesFromWindow.callNcA16 a16
  | jpCA16 a16 => exact Laws.DecodesFromWindow.jpCA16 a16
  | callCA16 a16 => exact Laws.DecodesFromWindow.callCA16 a16
  | ldAtA16A a16 => exact Laws.DecodesFromWindow.ldAtA16A a16
  | ldAAtA16 a16 => exact Laws.DecodesFromWindow.ldAAtA16 a16
  | _ => exact fun _ _ _ => ⟨rfl, rfl⟩

theorem decodeWindow_encode {i : Instr} (wf : i.WellFormed) :
    decodeWindow (i.encode.getD 0 0x00#8) (i.encode.getD 1 0x00#8) (i.encode.getD 2 0x00#8) = i := by
  have h := decodesFromWindow i wf 0x00#8 0x00#8
  split at h
  · next he => rw [he]; exact h.1
  · next he => rw [he]; exact h.1
  · next he => rw [he]; exact h.1
  · exact h.elim

/-! ## The illegal rows -/

theorem encode_of_illegalRow {i : Instr} {b : Byte} (row : (i, b) ∈ illegalRows) : i.encode = [b] := by
  have key : ∀ r ∈ illegalRows, r.1.encode = [r.2] := by decide
  exact key _ row

theorem mem_illegalBytes_of_row {i : Instr} {b : Byte} (row : (i, b) ∈ illegalRows) : b ∈ illegalBytes := by
  have key : ∀ r ∈ illegalRows, r.2 ∈ illegalBytes := by decide
  exact key _ row

/-- An instruction whose one byte is illegal (R75) is that byte's row. -/
theorem illegalRow_of_encode {i : Instr} {b : Byte} (he : i.encode = [b]) (hb : b ∈ illegalBytes) :
    (i, b) ∈ illegalRows := by
  have wf : i.WellFormed := by
    rintro rfl
    obtain rfl : 0xCB#8 = b := List.head_eq_of_cons_eq he
    exact absurd hb (by decide)
  have hi := decodeWindow_encode wf
  rw [he] at hi
  have key : ∀ b ∈ illegalBytes, (decodeWindow b 0x00#8 0x00#8, b) ∈ illegalRows := by decide
  exact hi ▸ key b hb

theorem exec_of_illegalRow {i : Instr} {b : Byte} (row : (i, b) ∈ illegalRows) (s : State) :
    exec i s = .next (s.decodeFault b) := by
  have key : ∀ r ∈ illegalRows, exec r.1 s = .next (s.decodeFault r.2) := by
    simp only [illegalRows, List.forall_mem_cons]
    exact ⟨rfl, rfl, rfl, rfl, rfl, rfl, rfl, rfl, rfl, rfl, rfl, nofun⟩
  exact key _ row

/-! ## What an instruction does to the core's control state -/

/-- HALT halts, unless IME is 0 and an interrupt is pending: then it arms the halt bug (R202). -/
theorem haltCore_cases (s : State) :
    ((s.ime = true ∨ s.pending = 0x00#8) ∧ haltCore s = finish 4 { s.fetched 1 with mode := .halted }) ∨
    ((s.ime = false ∧ s.pending ≠ 0x00#8) ∧ haltCore s = finish 4 { s.fetched 1 with haltBug := true }) := by
  cases hi : s.ime
  · by_cases hp : s.pending = 0x00#8
    · exact .inl ⟨.inr hp, by simp [haltCore, hi, hp]⟩
    · exact .inr ⟨⟨rfl, hp⟩, by simp [haltCore, hi, hp]⟩
  · exact .inl ⟨.inl rfl, by simp [haltCore, hi]⟩

/-- What an instruction answers: a quiet state, or one of the states that the instructions of `ControlsCore` give. -/
inductive ControlCase (s : State) : Instr → State → Prop where
  | quiet {i : Instr} {t : State} (h : Quiet s t) : ControlCase s i t
  | di : ControlCase s .di (({ s.fetched 1 with ime := false, eiPending := false } : State).addCycles 4)
  | ei : ControlCase s .ei (({ s.fetched 1 with eiPending := true } : State).addCycles 4)
  | reti : ControlCase s .reti ((s.fetched 1).returnFromInterrupt.addCycles 16)
  | halted (h : s.ime = true ∨ s.pending = 0x00#8) :
      ControlCase s .halt (({ s.fetched 1 with mode := .halted } : State).addCycles 4)
  | haltBug (h : s.ime = false ∧ s.pending ≠ 0x00#8) :
      ControlCase s .halt (({ s.fetched 1 with haltBug := true } : State).addCycles 4)
  | stop (n8 : Byte) : ControlCase s (.stop n8) (({ s.fetched 2 with mode := .stopped } : State).addCycles 4)
  | illegal {i : Instr} {b : Byte} (row : (i, b) ∈ illegalRows) : ControlCase s i (s.decodeFault b)

theorem exec_controlCase {i : Instr} {s t : State} (h : exec i s = .next t) : ControlCase s i t := by
  rcases exec_quiet i s with ⟨u, hu, quiet⟩ | rfl | rfl | rfl | rfl | ⟨n8, rfl⟩ | ⟨b, he, hb⟩
  · cases hu.symm.trans h
    exact .quiet quiet
  · cases h
    exact .di
  · cases h
    exact .ei
  · cases h
    exact .reti
  · rcases haltCore_cases s with ⟨hs, hh⟩ | ⟨hs, hh⟩
    · cases hh.symm.trans h
      exact .halted hs
    · cases hh.symm.trans h
      exact .haltBug hs
  · cases h
    exact .stop n8
  · have row := illegalRow_of_encode he hb
    cases (exec_of_illegalRow row s).symm.trans h
    exact .illegal row

end Sys2Proof.Machine
end

section
/-! SUPPORT. What a step that answers a next state has done, and that each part of it keeps the invariant. -/

namespace Sys2Proof.Machine

open Sys2Proof.Claims

/-- Outside a fault the invariant is about memory, F and the halt bug. -/
theorem State.Inv.of_unfaulted {t : State} (memory : Memory.wf t.mem = true) (low : t.f &&& 0x0F#8 = 0x00#8)
    (bug : t.haltBug = true → t.mode = .run) (fault : t.fault = none) : t.Inv :=
  ⟨memory, low, bug, fun _ _ h => absurd (fault.symm.trans h) nofun⟩

/-- An instruction of a running core without a fault keeps the invariant. -/
theorem ControlCase.inv {i : Instr} {s t : State} (h : ControlCase s i t) (hs : s.Inv) (run : s.mode = .run)
    (fault : s.fault = none) : t.Inv := by
  have mem (n : Nat) : Memory.wf (s.fetched n).mem = true := by simpa using hs.memory
  have low (n : Nat) : (s.fetched n).f &&& 0x0F#8 = 0x00#8 := by simpa using hs.lowNibble
  have unfaulted (n : Nat) : (s.fetched n).fault = none := by simpa using fault
  have running (n : Nat) : (s.fetched n).mode = .run := by simpa using run
  have fetches (n : Nat) : (s.fetched (n + 1)).haltBug ≠ true := by simp
  cases h with
  | quiet q =>
    exact .of_unfaulted (q.memory hs.memory) (q.lowNibble hs.lowNibble) (fun _ => q.mode.trans run) (q.fault.trans fault)
  | di => exact .of_unfaulted (mem 1) (low 1) (fun _ => running 1) (unfaulted 1)
  | ei => exact .of_unfaulted (mem 1) (low 1) (fun _ => running 1) (unfaulted 1)
  | reti => exact .of_unfaulted (mem 1) (low 1) (fun _ => running 1) (unfaulted 1)
  | halted _ => exact .of_unfaulted (mem 1) (low 1) (fun bug => absurd bug (fetches 0)) (unfaulted 1)
  | haltBug _ => exact .of_unfaulted (mem 1) (low 1) (fun _ => running 1) (unfaulted 1)
  | stop _ => exact .of_unfaulted (mem 2) (low 2) (fun bug => absurd bug (fetches 1)) (unfaulted 2)
  | illegal row =>
    refine ⟨mem 1, low 1, fun _ => running 1, fun addr byte hf => ?_⟩
    cases hf
    exact ⟨mem_illegalBytes_of_row row, running 1⟩

/-- Of the instructions only DI and RETI write IME themselves (R26). -/
theorem ControlCase.ime {i : Instr} {s t : State} (h : ControlCase s i t) :
    t.ime = s.ime ∨ (i = .di ∧ t.ime = false) ∨ (i = .reti ∧ t.ime = true) := by
  cases h with
  | quiet q => exact .inl q.ime
  | di => exact .inr (.inl ⟨rfl, rfl⟩)
  | reti => exact .inr (.inr ⟨rfl, rfl⟩)
  | ei => exact .inl (State.fetched_ime 1 s)
  | halted _ => exact .inl (State.fetched_ime 1 s)
  | haltBug _ => exact .inl (State.fetched_ime 1 s)
  | stop _ => exact .inl (State.fetched_ime 2 s)
  | illegal _ => exact .inl (State.fetched_ime 1 s)

/-- Of the instructions only HALT and STOP write the run mode (R28). -/
theorem ControlCase.mode {i : Instr} {s t : State} (h : ControlCase s i t) :
    t.mode = s.mode ∨ (i = .halt ∧ t.mode = .halted) ∨ ((∃ n8 : Byte, i = .stop n8) ∧ t.mode = .stopped) := by
  cases h with
  | quiet q => exact .inl q.mode
  | halted _ => exact .inr (.inl ⟨rfl, rfl⟩)
  | stop n8 => exact .inr (.inr ⟨⟨n8, rfl⟩, rfl⟩)
  | di => exact .inl (State.fetched_mode 1 s)
  | ei => exact .inl (State.fetched_mode 1 s)
  | reti => exact .inl (State.fetched_mode 1 s)
  | haltBug _ => exact .inl (State.fetched_mode 1 s)
  | illegal _ => exact .inl (State.fetched_mode 1 s)

/-! ## A step that answers a next state -/

theorem fault_none_of_step {s t : State} (h : step s = .next t) : s.fault = none := by
  cases hf : s.fault with
  | none => rfl
  | some f => exact absurd ((step_faulted hf).symm.trans h) nofun

/-- What a step that answers a next state has done: idled, entered an interrupt, or run one instruction with the delayed
effect of a previous EI after it (R52). -/
inductive StepCase (s : State) : State → Prop where
  | idle (h : s.Idle) : StepCase s (s.addCycles 4)
  | interrupt (awake : s.Awake) (due : s.InterruptDue) :
      StepCase s ((({ s with mode := .run } : State).interruptEntry (lowestPending s.pending)).addCycles 20)
  | instruction {i : Instr} {u : State} (runs : s.Runs i) (h : ControlCase { s with mode := .run } i u) :
      StepCase s (u.afterInstruction s.eiPending)

theorem step_stepCase {s t : State} (h : step s = .next t) : StepCase s t := by
  rcases step_cases (fault_none_of_step h) with ⟨idle, hs⟩ | ⟨awake, due, hs⟩ | ⟨runs, u, hu, hs⟩
  · cases hs.symm.trans h
    exact .idle idle
  · cases hs.symm.trans h
    exact .interrupt awake due
  · cases hs.symm.trans h
    exact .instruction runs (exec_controlCase hu)

/-! ## What a step does beside its instruction keeps the invariant -/

theorem State.Inv.addCycles {s : State} (h : s.Inv) (n : Nat) : (s.addCycles n).Inv :=
  ⟨h.memory, h.lowNibble, h.haltBug, h.fault⟩

theorem State.Inv.interruptEntry {s : State} (h : s.Inv) (n : Nat) : (s.interruptEntry n).Inv where
  memory := Memory.wf_interruptEntry n h.memory
  lowNibble := by simpa only [State.f, State.interruptEntry_af] using h.lowNibble
  haltBug := by simp
  fault := by simpa using h.fault

theorem State.Inv.afterInstruction {s : State} (h : s.Inv) (pending : Bool) : (s.afterInstruction pending).Inv := by
  rcases s.afterInstruction_eq pending with he | ⟨-, -, -, he⟩
  · rwa [he]
  · rw [he]
    exact ⟨h.memory, h.lowNibble, h.haltBug, h.fault⟩

@[simp] theorem State.afterInstruction_mode (s : State) (pending : Bool) :
    (s.afterInstruction pending).mode = s.mode := by
  rcases s.afterInstruction_eq pending with he | ⟨-, -, -, he⟩ <;> rw [he]

/-- A halted core that wakes (R52) still meets the invariant. -/
theorem State.Inv.running {s : State} (h : s.Inv) : ({ s with mode := .run } : State).Inv :=
  ⟨h.memory, h.lowNibble, fun _ => rfl, fun addr byte hf => ⟨(h.fault addr byte hf).1, rfl⟩⟩

end Sys2Proof.Machine
end

section
/-! SUPPORT. The register views as words, the memory of a host's image, and creation. -/

namespace Sys2Proof.Machine

open Sys2Proof.Claims

/-! ## A pair and its two views -/

/-- The spec's `hi ++ lo` as a number (R11) is the model's word of two bytes. -/
theorem word_eq_joinBytes (hi lo : Byte) : word hi lo = joinBytes hi lo := by
  apply BitVec.eq_of_toNat_eq
  have := hi.isLt
  have := lo.isLt
  rw [joinBytes_toNat, word, BitVec.toNat_ofNat]
  omega

theorem word_hiByte_loByte (w : Word16) : word (hiByte w) (loByte w) = w := by
  rw [word_eq_joinBytes, joinBytes_hi_lo]

/-- R21 in the invariant's form and as a number. -/
theorem State.Inv.f_mod {s : State} (h : s.Inv) : s.f.toNat % 16 = 0 := by
  have low : (s.f &&& 0x0F#8).toNat = 0 := congrArg BitVec.toNat h.lowNibble
  rwa [BitVec.toNat_and, show (0x0F#8).toNat = 2 ^ 4 - 1 from rfl, Nat.and_two_pow_sub_one_eq_mod] at low

/-! ## The host's image as memory -/

/-- Cells for other addresses, written later, leave what the image holds at an address. -/
theorem Memory.read_load_append {image later : List (Word16 × Byte)} {a : Word16} (other : ∀ cell ∈ later, cell.1 ≠ a) :
    Memory.read (Memory.load (image ++ later)) a.toNat = Memory.read (Memory.load image) a.toNat := by
  induction later using List.reverseRecOn with
  | nil => rw [List.append_nil]
  | append_singleton later cell ih =>
    have hcell : cell.1.toNat ≠ a.toNat := fun h => other cell (by simp) (BitVec.eq_of_toNat_eq h)
    rw [← List.append_assoc, Memory.read_load_concat, if_neg hcell]
    exact ih fun c hc => other c (List.mem_append_left _ hc)

/-- The byte an image names last for an address is what memory holds there. -/
theorem Memory.read_load_named_last (image : List (Word16 × Byte)) {later : List (Word16 × Byte)} {a : Word16}
    (v : Byte) (other : ∀ cell ∈ later, cell.1 ≠ a) :
    Memory.read (Memory.load (image ++ (a, v) :: later)) a.toNat = v := by
  rw [List.append_cons, Memory.read_load_append other, Memory.read_load_concat, if_pos rfl]

/-- An address that an image does not name reads the background. -/
theorem Memory.read_load_unnamed {image : List (Word16 × Byte)} {a : Word16} (other : ∀ cell ∈ image, cell.1 ≠ a) :
    Memory.read (Memory.load image) a.toNat = Memory.background :=
  Memory.read_load_append (image := []) other

/-- The image of a function on a list of addresses gives that function there. -/
theorem Memory.read_load_graph (mem0 : Word16 → Byte) {addrs : List Word16} {a : Word16} (h : a ∈ addrs) :
    Memory.read (Memory.load (addrs.map fun x => (x, mem0 x))) a.toNat = mem0 a := by
  induction addrs using List.reverseRecOn with
  | nil => cases h
  | append_singleton addrs x ih =>
    rw [List.map_append, List.map_singleton, Memory.read_load_concat]
    by_cases same : x = a
    · rw [same, if_pos rfl]
    · rw [if_neg fun hx => same (BitVec.eq_of_toNat_eq hx)]
      exact ih ((List.mem_append.mp h).resolve_right fun hx => same (List.mem_singleton.mp hx).symm)

/-! ## Creation -/

@[simp] theorem State.create_f (image : List (Word16 × Byte)) (resetPc resetSp : Word16) :
    (State.create image resetPc resetSp).f = 0x00#8 := (by decide : loByte 0x0000#16 = 0x00#8)

theorem State.create_reg (image : List (Word16 × Byte)) (resetPc resetSp : Word16) (r : Reg8) :
    (State.create image resetPc resetSp).reg r = 0x00#8 := by
  have hi : hiByte 0x0000#16 = 0x00#8 := by decide
  have lo : loByte 0x0000#16 = 0x00#8 := by decide
  cases r with
  | a | b | d | h => exact hi
  | c | e | l => exact lo

theorem create_inv (image : List (Word16 × Byte)) (resetPc resetSp : Word16) :
    (State.create image resetPc resetSp).Inv :=
  .of_unfaulted (Memory.wf_load image) (by simp) nofun rfl

end Sys2Proof.Machine
end

section
/-! SUPPORT. Every whole instruction as a row of one of the opcode table's families, with the length of the family's
encodings and PC after it. -/

namespace Sys2Proof.Machine

open Sys2Proof.Claims

/-! ## The families of the opcode table -/

/-- The rows of the opcode table by family: an instruction as the decoder builds it from its fields (R69 to R74), each
operand form of a shared operation under one case. -/
inductive Family : Instr → Prop where
  | nop : Family .nop
  | storeSp (a16 : Word16) : Family (.ldAtA16Sp a16)
  | stop (n8 : Byte) : Family (.stop n8)
  | halt : Family .halt
  | loadPair (p : Pair) (n16 : Word16) : Family (Instr.mkLoadPair p n16)
  | loadA (m : AddrMode) : Family (Instr.mkLoadA m)
  | storeA (m : AddrMode) : Family (Instr.mkStoreA m)
  | loadImm (r : Reg8) (n8 : Byte) : Family (Instr.mkLoadImm r n8)
  | storeImm (n8 : Byte) : Family (.ldAtHlN8 n8)
  | move (dst src : Reg8) : Family (Instr.mkMove dst src)
  | loadAtHl (r : Reg8) : Family (Instr.mkLoadAtHl r)
  | storeAtHl (r : Reg8) : Family (Instr.mkStoreAtHl r)
  | loadSpHl : Family .ldSpHl
  | addHl (p : Pair) : Family (Instr.mkAddHl p)
  | incPair (p : Pair) : Family (Instr.mkIncPair p)
  | decPair (p : Pair) : Family (Instr.mkDecPair p)
  | inc (o : Operand8) : Family (Instr.mkInc o)
  | dec (o : Operand8) : Family (Instr.mkDec o)
  | alu (op : AluOp) (src : Source) : Family (Instr.mkAlu op src)
  | addSp (e8 : Byte) : Family (.addSpE8 e8)
  | loadHlSp (e8 : Byte) : Family (.ldHlSpE8 e8)
  | rlca : Family .rlca
  | rrca : Family .rrca
  | rla : Family .rla
  | rra : Family .rra
  | daa : Family .daa
  | cpl : Family .cpl
  | scf : Family .scf
  | ccf : Family .ccf
  | push (q : StackPair) : Family (Instr.mkPush q)
  | pop (q : StackPair) : Family (Instr.mkPop q)
  | jump (a16 : Word16) : Family (.jpA16 a16)
  | jumpIf (cc : Cond) (a16 : Word16) : Family (Instr.mkJump cc a16)
  | jumpHl : Family .jpHl
  | jumpRel (e8 : Byte) : Family (.jrE8 e8)
  | jumpRelIf (cc : Cond) (e8 : Byte) : Family (Instr.mkJumpRel cc e8)
  | call (a16 : Word16) : Family (.callA16 a16)
  | callIf (cc : Cond) (a16 : Word16) : Family (Instr.mkCall cc a16)
  | ret : Family .ret
  | retIf (cc : Cond) : Family (Instr.mkRet cc)
  | reti : Family .reti
  | restart (y : BitVec 3) : Family (Instr.mkRst y)
  | di : Family .di
  | ei : Family .ei
  | illegal {i : Instr} {b : Byte} (row : (i, b) ∈ illegalRows) : Family i
  | rot (op : RotOp) (o : Operand8) : Family (Instr.mkRot op o)
  | bit (y : BitVec 3) (o : Operand8) : Family (Instr.mkBit y o)
  | res (y : BitVec 3) (o : Operand8) : Family (Instr.mkRes y o)
  | set (y : BitVec 3) (o : Operand8) : Family (Instr.mkSet y o)

theorem decodeCb_family (op2 : Byte) : Family (decodeCb op2) := by
  unfold decodeCb
  split
  · exact .rot _ _
  · exact .bit _ _
  · exact .res _ _
  · exact .set _ _

theorem decodeBlock0_family (op n8 : Byte) (n16 : Word16) : Family (decodeBlock0 op n8 n16) := by
  unfold decodeBlock0
  split
  · split
    · exact .nop
    · exact .storeSp n16
    · exact .stop n8
    · exact .jumpRel n8
    · exact .jumpRelIf _ n8
  · split
    · exact .addHl _
    · exact .loadPair _ n16
  · dsimp only
    split
    · exact .loadA _
    · exact .storeA _
  · split
    · exact .decPair _
    · exact .incPair _
  · exact .inc _
  · exact .dec _
  · split
    · exact .loadImm _ n8
    · exact .storeImm n8
  · split
    · exact .rlca
    · exact .rrca
    · exact .rla
    · exact .rra
    · exact .daa
    · exact .cpl
    · exact .scf
    · exact .ccf

theorem decodeBlock1_family (op : Byte) : Family (decodeBlock1 op) := by
  unfold decodeBlock1
  split
  · exact .move _ _
  · exact .loadAtHl _
  · exact .storeAtHl _
  · exact .halt

theorem decodeBlock3_family (op n8 : Byte) (n16 : Word16) : Family (decodeBlock3 op n8 n16) := by
  unfold decodeBlock3
  split
  · split
    · exact .storeA (.atA8 n8)
    · exact .addSp n8
    · exact .loadA (.atA8 n8)
    · exact .loadHlSp n8
    · exact .retIf _
  · split
    · split
      · exact .ret
      · exact .reti
      · exact .jumpHl
      · exact .loadSpHl
    · exact .pop _
  · split
    · exact .storeA .atC
    · exact .storeA (.atA16 n16)
    · exact .loadA .atC
    · exact .loadA (.atA16 n16)
    · exact .jumpIf _ n16
  · split
    · exact .jump n16
    · exact decodeCb_family n8
    · exact .illegal (b := 0xD3#8) (by decide)
    · exact .illegal (b := 0xDB#8) (by decide)
    · exact .illegal (b := 0xE3#8) (by decide)
    · exact .illegal (b := 0xEB#8) (by decide)
    · exact .di
    · exact .ei
  · split
    · exact .illegal (b := 0xE4#8) (by decide)
    · exact .illegal (b := 0xEC#8) (by decide)
    · exact .illegal (b := 0xF4#8) (by decide)
    · exact .illegal (b := 0xFC#8) (by decide)
    · exact .callIf _ n16
  · split
    · split
      · exact .call n16
      · exact .illegal (b := 0xDD#8) (by decide)
      · exact .illegal (b := 0xED#8) (by decide)
      · exact .illegal (b := 0xFD#8) (by decide)
    · exact .push _
  · exact .alu _ (.imm n8)
  · exact .restart _

theorem decodeWindow_family (b0 b1 b2 : Byte) : Family (decodeWindow b0 b1 b2) := by
  unfold decodeWindow
  split
  · exact decodeBlock0_family _ _ _
  · exact decodeBlock1_family _
  · exact .alu _ _
  · exact decodeBlock3_family _ _ _

/-- Every whole instruction belongs to one of the families, since the decoder gives it. -/
theorem family_of_wellFormed {i : Instr} (h : i.WellFormed) : Family i :=
  decodeWindow_encode h ▸ decodeWindow_family _ _ _

/-! ## The length of a family's encodings -/

theorem length_mkMove (dst src : Reg8) : (Instr.mkMove dst src).encode.length = 1 := by
  cases dst <;> cases src <;> rfl

theorem length_mkLoadImm (r : Reg8) (n8 : Byte) : (Instr.mkLoadImm r n8).encode.length = 2 := by
  cases r <;> rfl

theorem length_mkLoadAtHl (r : Reg8) : (Instr.mkLoadAtHl r).encode.length = 1 := by
  cases r <;> rfl

theorem length_mkStoreAtHl (r : Reg8) : (Instr.mkStoreAtHl r).encode.length = 1 := by
  cases r <;> rfl

theorem length_mkLoadPair (p : Pair) (n16 : Word16) : (Instr.mkLoadPair p n16).encode.length = 3 := by
  cases p <;> rfl

theorem length_mkLoadA (m : AddrMode) : (Instr.mkLoadA m).encode.length = modeLength m := by
  cases m <;> rfl

theorem length_mkStoreA (m : AddrMode) : (Instr.mkStoreA m).encode.length = modeLength m := by
  cases m <;> rfl

theorem length_mkInc (o : Operand8) : (Instr.mkInc o).encode.length = 1 := by
  cases o with
  | reg r => cases r <;> rfl
  | atHl => rfl

theorem length_mkDec (o : Operand8) : (Instr.mkDec o).encode.length = 1 := by
  cases o with
  | reg r => cases r <;> rfl
  | atHl => rfl

theorem length_mkIncPair (p : Pair) : (Instr.mkIncPair p).encode.length = 1 := by
  cases p <;> rfl

theorem length_mkDecPair (p : Pair) : (Instr.mkDecPair p).encode.length = 1 := by
  cases p <;> rfl

theorem length_mkAddHl (p : Pair) : (Instr.mkAddHl p).encode.length = 1 := by
  cases p <;> rfl

theorem length_mkAlu (op : AluOp) (src : Source) : (Instr.mkAlu op src).encode.length = sourceLength src := by
  cases src with
  | reg r => cases op <;> cases r <;> rfl
  | atHl => cases op <;> rfl
  | imm n8 => cases op <;> rfl

theorem length_mkPush (q : StackPair) : (Instr.mkPush q).encode.length = 1 := by
  cases q <;> rfl

theorem length_mkPop (q : StackPair) : (Instr.mkPop q).encode.length = 1 := by
  cases q <;> rfl

theorem length_mkRot (op : RotOp) (o : Operand8) : (Instr.mkRot op o).encode.length = 2 := by
  cases o with
  | reg r => cases op <;> cases r <;> rfl
  | atHl => cases op <;> rfl

theorem length_mkBit (b : BitVec 3) (o : Operand8) : (Instr.mkBit b o).encode.length = 2 := by
  obtain ⟨b, hb⟩ := b
  cases o with
  | reg r => interval_cases b <;> cases r <;> rfl
  | atHl => interval_cases b <;> rfl

theorem length_mkRes (b : BitVec 3) (o : Operand8) : (Instr.mkRes b o).encode.length = 2 := by
  obtain ⟨b, hb⟩ := b
  cases o with
  | reg r => interval_cases b <;> cases r <;> rfl
  | atHl => interval_cases b <;> rfl

theorem length_mkSet (b : BitVec 3) (o : Operand8) : (Instr.mkSet b o).encode.length = 2 := by
  obtain ⟨b, hb⟩ := b
  cases o with
  | reg r => interval_cases b <;> cases r <;> rfl
  | atHl => interval_cases b <;> rfl

/-! ## PC after an instruction without a control transfer -/

/-- A result that, when it is a next state, has PC past `n` bytes. -/
def Advances (n : Nat) (s : State) (r : Result) : Prop := ∀ t : State, r = .next t → t.pc = s.pcAfter n

theorem advances_finish {n cost : Nat} {s u : State} (h : u.pc = s.pcAfter n) : Advances n s (finish cost u) := by
  rintro t ⟨⟩
  exact h

theorem haltCore_advances (s : State) : Advances 1 s (haltCore s) := by
  rcases haltCore_cases s with ⟨-, h⟩ | ⟨-, h⟩ <;> exact h ▸ advances_finish (State.fetched_pc 0 s)

theorem setOperand_pc (s : State) (o : Operand8) (v : Byte) : (s.setOperand o v).pc = s.pc := by
  cases o with
  | reg r => exact State.setReg_pc s r v
  | atHl => rfl

theorem decodeFault_advances (b : Byte) (s : State) : Advances 1 s (.next (s.decodeFault b)) := by
  rintro t ⟨⟩
  exact State.fetched_pc 0 s

theorem loadAccumulator_advances (m : AddrMode) (s : State) : Advances (modeLength m) s (loadAccumulator m s) := by
  cases m <;> exact advances_finish (by simp [State.postModify, modeLength])

theorem storeAccumulator_advances (m : AddrMode) (s : State) : Advances (modeLength m) s (storeAccumulator m s) := by
  cases m <;> exact advances_finish (by simp [State.postModify, modeLength])

theorem accumulate_advances (op : AluOp) (src : Source) (s : State) :
    Advances (sourceLength src) s (accumulate op src s) := by
  cases src <;> exact advances_finish (by simp [sourceLength])

theorem Family.advances {i : Instr} (h : Family i) (s : State)
    (plain : ∀ b ∈ transferBytes, i.encode.head? ≠ some b) : Advances i.encode.length s (exec i s) := by
  cases h with
  | nop => exact advances_finish (State.fetched_pc 0 s)
  | storeSp a16 => exact advances_finish (State.fetched_pc 2 s)
  | stop n8 => exact advances_finish (State.fetched_pc 1 s)
  | halt => exact haltCore_advances s
  | loadPair p n16 => rw [length_mkLoadPair, exec_mkLoadPair]; exact advances_finish (by simp)
  | loadA m => rw [length_mkLoadA, exec_mkLoadA]; exact loadAccumulator_advances m s
  | storeA m => rw [length_mkStoreA, exec_mkStoreA]; exact storeAccumulator_advances m s
  | loadImm r n8 => rw [length_mkLoadImm, exec_mkLoadImm]; exact advances_finish (by simp)
  | storeImm n8 => exact advances_finish (State.fetched_pc 1 s)
  | move dst src => rw [length_mkMove, exec_mkMove]; exact advances_finish (by simp)
  | loadAtHl r => rw [length_mkLoadAtHl, exec_mkLoadAtHl]; exact advances_finish (by simp)
  | storeAtHl r => rw [length_mkStoreAtHl, exec_mkStoreAtHl]; exact advances_finish (by simp)
  | loadSpHl => exact advances_finish (State.fetched_pc 0 s)
  | addHl p => rw [length_mkAddHl, exec_mkAddHl]; exact advances_finish (by simp)
  | incPair p => rw [length_mkIncPair, exec_mkIncPair]; exact advances_finish (by simp)
  | decPair p => rw [length_mkDecPair, exec_mkDecPair]; exact advances_finish (by simp)
  | inc o => rw [length_mkInc, exec_mkInc]; exact advances_finish (by simp [setOperand_pc])
  | dec o => rw [length_mkDec, exec_mkDec]; exact advances_finish (by simp [setOperand_pc])
  | alu op src => rw [length_mkAlu, exec_mkAlu]; exact accumulate_advances op src s
  | addSp e8 => exact advances_finish (n := 2) (by simp)
  | loadHlSp e8 => exact advances_finish (n := 2) (by simp)
  | rlca => exact advances_finish (n := 1) (by simp)
  | rrca => exact advances_finish (n := 1) (by simp)
  | rla => exact advances_finish (n := 1) (by simp)
  | rra => exact advances_finish (n := 1) (by simp)
  | daa => exact advances_finish (n := 1) (by simp)
  | cpl => exact advances_finish (n := 1) (by simp)
  | scf => exact advances_finish (n := 1) (by simp)
  | ccf => exact advances_finish (n := 1) (by simp)
  | push q => rw [length_mkPush, exec_mkPush]; exact advances_finish (by simp)
  | pop q => rw [length_mkPop, exec_mkPop]; exact advances_finish (by simp)
  | jump a16 => exact absurd rfl (plain 0xC3#8 (by decide))
  | jumpIf cc a16 => cases cc <;> exact absurd rfl (plain _ (by decide))
  | jumpHl => exact absurd rfl (plain 0xE9#8 (by decide))
  | jumpRel e8 => exact absurd rfl (plain 0x18#8 (by decide))
  | jumpRelIf cc e8 => cases cc <;> exact absurd rfl (plain _ (by decide))
  | call a16 => exact absurd rfl (plain 0xCD#8 (by decide))
  | callIf cc a16 => cases cc <;> exact absurd rfl (plain _ (by decide))
  | ret => exact absurd rfl (plain 0xC9#8 (by decide))
  | retIf cc => cases cc <;> exact absurd rfl (plain _ (by decide))
  | reti => exact absurd rfl (plain 0xD9#8 (by decide))
  | restart y =>
    obtain ⟨y, hy⟩ := y
    interval_cases y <;> exact absurd rfl (plain _ (by decide))
  | di => exact advances_finish (State.fetched_pc 0 s)
  | ei => exact advances_finish (State.fetched_pc 0 s)
  | illegal row => rw [encode_of_illegalRow row, exec_of_illegalRow row]; exact decodeFault_advances _ s
  | rot op o => rw [length_mkRot, exec_mkRot]; exact advances_finish (by simp [setOperand_pc])
  | bit y o => rw [length_mkBit, exec_mkBit]; exact advances_finish (by simp)
  | res y o => rw [length_mkRes, exec_mkRes]; exact advances_finish (by simp [setOperand_pc])
  | set y o => rw [length_mkSet, exec_mkSet]; exact advances_finish (by simp [setOperand_pc])

end Sys2Proof.Machine
end

section
/-! PROOFS. The statements about the state. -/

namespace Sys2Proof.Machine

open Sys2Proof.Claims

/-- Settles O13: by the cases of a step, the invariant of an idle step, an interrupt entry and every instruction. -/
theorem stepKeepsInvariant : Obligations.StepKeepsInvariant := by
  intro s t hs h
  have fault := fault_none_of_step h
  cases step_stepCase h with
  | idle _ => exact hs.addCycles 4
  | interrupt _ _ => exact (hs.running.interruptEntry _).addCycles 20
  | instruction _ hc => exact (hc.inv hs.running rfl fault).afterInstruction _

/-- Settles O10: both writes of F mask it, and the invariant says what F reads as. -/
theorem lowNibbleOfFIsZero : Obligations.LowNibbleOfFIsZero := fun s v _ =>
  ⟨s.setF_f v, s.setF_reg v .a, rfl, s.setF_flags v, State.Inv.f_mod⟩

/-- Settles O11: the reset table field by field, and the image of a memory names each of its addresses. -/
theorem createGivesTheResetTable : Obligations.CreateGivesTheResetTable := by
  refine ⟨fun image resetPc resetSp => ?_, fun image later a v _ _ other => Memory.read_load_named_last image v other,
    fun image a _ _ other => Memory.read_load_unnamed other, fun mem0 => ?_⟩
  · exact ⟨State.create_reg image resetPc resetSp, rfl, rfl, rfl, rfl, by simp [State.flags],
      rfl, rfl, rfl, rfl, rfl, rfl, rfl, rfl⟩
  · exact ⟨(Finset.univ.toList : List Word16).map fun x => (x, mem0 x), fun a _ _ =>
      Memory.read_load_graph mem0 (Finset.mem_toList.mpr (Finset.mem_univ a))⟩

/-- Settles O58: by the families of the table, the transfers among them left out by their first bytes. -/
theorem pcAdvancesByTheEncodedLength : Obligations.PcAdvancesByTheEncodedLength :=
  fun _ s t wf h plain => (family_of_wellFormed wf).advances s plain t h

/-- Settles O59: IME after a step is what the interrupt entry, the instruction or the delayed EI leaves in it. -/
theorem onlyTheseChangeIme : Obligations.OnlyTheseChangeIme := by
  intro s t h changed
  cases step_stepCase h with
  | idle _ => exact absurd rfl changed
  | interrupt awake due => exact .inl ⟨awake, due, rfl⟩
  | @instruction i u runs hc =>
    rcases u.afterInstruction_eq s.eiPending with he | ⟨pending, -, -, he⟩
    · rw [he] at changed ⊢
      rcases hc.ime with same | ⟨rfl, off⟩ | ⟨rfl, on⟩
      · exact absurd same changed
      · exact .inr (.inl ⟨runs, off⟩)
      · exact .inr (.inr (.inl ⟨runs, on⟩))
    · exact .inr (.inr (.inr ⟨pending, ⟨i, runs⟩, by rw [he]⟩))

/-- Settles O60: every step but an idle one runs in mode RUN, so a halted core has woken, and then only HALT and STOP
leave that mode. -/
theorem onlyTheseChangeTheMode : Obligations.OnlyTheseChangeTheMode := by
  intro s t h changed
  have woken (awake : s.Awake) (run : t.mode = .run) : s.mode = .halted ∧ s.pending ≠ 0x00#8 ∧ t.mode = .run := by
    rcases awake.2 with hr | ⟨hh, hp⟩
    · exact absurd (run.trans hr.symm) changed
    · exact ⟨hh, hp, run⟩
  cases step_stepCase h with
  | idle _ => exact absurd rfl changed
  | interrupt awake _ => exact .inl (woken awake rfl)
  | instruction runs hc =>
    rw [State.afterInstruction_mode] at woken ⊢
    rcases hc.mode with run | ⟨rfl, halted⟩ | ⟨⟨n8, rfl⟩, stopped⟩
    · exact .inl (woken runs.1 run)
    · exact .inr (.inl ⟨runs, halted⟩)
    · exact .inr (.inr ⟨⟨n8, runs⟩, stopped⟩)

/-- Settles O9: a pair is the word of its bytes, and each register is one byte of one pair. -/
theorem viewsAreIndependent : Obligations.ViewsAreIndependent := fun s r v =>
  ⟨(word_hiByte_loByte s.af).symm, (word_hiByte_loByte s.bc).symm, (word_hiByte_loByte s.de).symm,
    (word_hiByte_loByte s.hl).symm, s.setReg_reg_same r v, fun _ other => s.setReg_reg_other v other,
    keepsAllBut_setReg s r v, s.setReg_mem r v⟩

/-- Settles O12: the reset state is the creation with no image, and an image's memory is in canonical form. -/
theorem resetMeetsInvariant : Obligations.ResetMeetsInvariant :=
  ⟨create_inv [] Config.resetPc Config.resetSp, rfl, fun image resetPc resetSp =>
    ⟨create_inv image resetPc resetSp, rfl⟩⟩

/-- Settles O19: the recorded fault decides the step, and with it what the step returns. -/
theorem faultIsSticky : Obligations.FaultIsSticky := by
  intro s f h
  have hs := step_faulted h
  exact ⟨hs, by rw [stepReturn, hs], fun t => hs ▸ nofun⟩

end Sys2Proof.Machine
end

section
/-! SUPPORT. Word accesses as two bytes, the frame of a memory write, and the canonical form as data: what a memory reads
as determines its cells. -/

namespace Sys2Proof.Machine

open Sys2Proof.Claims

/-! ## The bytes of a word as numbers -/

theorem loByte_eq_byte (w : Word16) : loByte w = byte (w.toNat % 256) := by
  apply BitVec.eq_of_toNat_eq
  rw [loByte_toNat, byte, BitVec.toNat_ofNat, Nat.mod_mod]

theorem hiByte_eq_byte (w : Word16) : hiByte w = byte (w.toNat / 256) := by
  apply BitVec.eq_of_toNat_eq
  rw [hiByte_toNat, byte, BitVec.toNat_ofNat, Nat.mod_eq_of_lt (by omega)]

/-! ## Word accesses -/

theorem State.readByte_writeWord_low (s : State) (a v : Word16) : (s.writeWord a v).readByte a = loByte v := by
  have distinct : a + 1#16 ≠ a := by bv_omega
  rw [State.readByte_writeWord, if_neg distinct, if_pos rfl]

theorem State.readByte_writeWord_high (s : State) (a v : Word16) :
    (s.writeWord a v).readByte (a + 1#16) = hiByte v := by
  rw [State.readByte_writeWord, if_pos rfl]

theorem State.readWord_writeWord_same (s : State) (a v : Word16) : (s.writeWord a v).readWord a = v := by
  rw [State.readWord, State.readByte_writeWord_low, State.readByte_writeWord_high, joinBytes_hi_lo]

/-! ## The bytes a write leaves -/

theorem keepsMemoryBut_writeByte (s : State) (a : Word16) (v : Byte) : KeepsMemoryBut [a] s (s.writeByte a v) :=
  fun _ hb => s.readByte_writeByte_other v (Ne.symm (List.ne_of_not_mem_cons hb))

theorem keepsMemoryBut_writeWord (s : State) (a v : Word16) : KeepsMemoryBut [a, a + 1#16] s (s.writeWord a v) := by
  intro b hb
  obtain ⟨low, high⟩ : b ≠ a ∧ b ≠ a + 1#16 := by simpa using hb
  rw [State.readByte_writeWord, if_neg high.symm, if_neg low.symm]

/-! ## Canonical memories as data -/

theorem Memory.wfFrom_cons {lo k : Nat} {v : Byte} {rest : Memory} :
    Memory.wfFrom lo ((k, v) :: rest) = true ↔
      lo ≤ k ∧ k < 65536 ∧ v ≠ Memory.background ∧ Memory.wfFrom (k + 1) rest = true := by
  simp [Memory.wfFrom, and_assoc]

/-- A canonical memory is canonical from its first cell on. -/
theorem Memory.wfFrom_first {lo k : Nat} {v : Byte} {rest : Memory} (h : Memory.wfFrom lo ((k, v) :: rest) = true) :
    Memory.wfFrom k ((k, v) :: rest) = true :=
  Memory.wfFrom_cons.mpr ⟨le_refl k, (Memory.wfFrom_cons.mp h).2⟩

/-- A canonical memory's first cell is no lower than where a memory that reads alike begins: what it holds there is not
the background. -/
theorem Memory.le_first_of_reads_alike {lo lo' k : Nat} {v : Byte} {rest n : Memory}
    (hm : Memory.wfFrom lo ((k, v) :: rest) = true) (hn : Memory.wfFrom lo' n = true)
    (alike : ∀ a < 65536, Memory.read ((k, v) :: rest) a = Memory.read n a) : lo' ≤ k := by
  obtain ⟨-, bound, listed, -⟩ := Memory.wfFrom_cons.mp hm
  by_contra below
  have here := alike k bound
  rw [Memory.read, if_pos rfl, Memory.read_below hn (by omega)] at here
  exact listed here

/-- Canonical memories that read alike hold the same cells. -/
theorem Memory.eq_of_reads_alike {lo : Nat} {m n : Memory} (hm : Memory.wfFrom lo m = true)
    (hn : Memory.wfFrom lo n = true) (alike : ∀ a < 65536, Memory.read m a = Memory.read n a) : m = n := by
  induction m generalizing lo n with
  | nil =>
    cases n with
    | nil => rfl
    | cons cell rest =>
      exact absurd (Memory.le_first_of_reads_alike hn rfl fun a ha => (alike a ha).symm)
        (Nat.not_succ_le_self cell.1)
  | cons cell rest ih =>
    obtain ⟨k, v⟩ := cell
    cases n with
    | nil => exact absurd (Memory.le_first_of_reads_alike hm rfl alike) (Nat.not_succ_le_self k)
    | cons cell' rest' =>
      obtain ⟨k', v'⟩ := cell'
      obtain ⟨-, bound, -, hrest⟩ := Memory.wfFrom_cons.mp hm
      obtain ⟨-, -, -, hrest'⟩ := Memory.wfFrom_cons.mp hn
      have first : k = k' := Nat.le_antisymm
        (Memory.le_first_of_reads_alike hn (Memory.wfFrom_first hm) fun a ha => (alike a ha).symm)
        (Memory.le_first_of_reads_alike hm (Memory.wfFrom_first hn) alike)
      subst first
      have value : v = v' := by simpa [Memory.read] using alike k bound
      have tails : rest = rest' := ih hrest hrest' fun a ha => by
        by_cases same : k = a
        · rw [Memory.read_below hrest (by omega), Memory.read_below hrest' (by omega)]
        · simpa [Memory.read, same] using alike a ha
      rw [value, tails]

end Sys2Proof.Machine
end

section
/-! PROOFS. The statements about memory. -/

namespace Sys2Proof.Machine

/-- Settles O7: by the two bytes of a word write; the clause at 0xFFFF is the high byte's, since 0xFFFF + 1 wraps to 0. -/
theorem wordAccessIsLittleEndian : Obligations.WordAccessIsLittleEndian := fun s a v =>
  ⟨(word_eq_joinBytes _ _).symm, s.readWord_writeWord_same a v,
    (s.readByte_writeWord_low a v).trans (loByte_eq_byte v),
    (s.readByte_writeWord_high a v).trans (hiByte_eq_byte v),
    (s.readByte_writeWord_high 0xFFFF#16 v).trans (hiByte_eq_byte v),
    keepsMemoryBut_writeWord s a v, keepsAllBut_writeWord s a v⟩

/-- Settles O8: by induction on the cells, the first cells of the two memories being the same. -/
theorem equalReadsAreEqualMemories : Obligations.EqualReadsAreEqualMemories := fun _ _ hs ht alike =>
  Memory.eq_of_reads_alike hs ht fun a ha => alike (BitVec.ofNatLT a ha)

/-- Settles O6: by the read-back of a byte write and its frame. -/
theorem byteAccessReadsBack : Obligations.ByteAccessReadsBack := fun s a v =>
  ⟨s.readByte_writeByte_same a v, keepsMemoryBut_writeByte s a v, keepsAllBut_writeByte s a v⟩

end Sys2Proof.Machine
end

section
/-! SUPPORT. The bytes of a decoded instruction, block by block of the decoder (R69 to R72, R74), and the instruction read
from a list of bytes. -/

namespace Sys2Proof.Machine

open Sys2Proof.Claims

/-! ## An opcode byte from its fields -/

/-- The byte whose fields are x, y and z (R61). -/
def opcodeByte (x : BitVec 2) (y z : BitVec 3) : Byte := x ++ y ++ z

@[simp] theorem fieldX_opcodeByte (x : BitVec 2) (y z : BitVec 3) : fieldX (opcodeByte x y z) = x := by
  revert x y z
  decide

theorem opcodeByte_fields (op : Byte) : opcodeByte (fieldX op) (fieldY op) (fieldZ op) = op := by
  revert op
  decide

/-- A case split on the field x. -/
theorem block_cases {P : BitVec 2 → Prop} (block0 : P 0#2) (block1 : P 1#2) (block2 : P 2#2) (block3 : P 3#2)
    (x : BitVec 2) : P x := by
  obtain ⟨x, hx⟩ := x
  interval_cases x
  exacts [block0, block1, block2, block3]

/-- A case split on a field y or z. -/
theorem code_cases {P : BitVec 3 → Prop} (c0 : P 0#3) (c1 : P 1#3) (c2 : P 2#3) (c3 : P 3#3) (c4 : P 4#3)
    (c5 : P 5#3) (c6 : P 6#3) (c7 : P 7#3) (y : BitVec 3) : P y := by
  obtain ⟨y, hy⟩ := y
  interval_cases y
  exacts [c0, c1, c2, c3, c4, c5, c6, c7]

/-! ## The head of a stream -/

/-- As many of three bytes as R73's length map gives for the first. -/
def streamHead (b0 b1 b2 : Byte) : List Byte := [b0, b1, b2].take (lengthOfFirstByte b0)

theorem lengthOfFirstByte_pos (b0 : Byte) : 0 < lengthOfFirstByte b0 := by
  revert b0
  decide

theorem streamHead_eq_cons (b0 b1 b2 : Byte) :
    streamHead b0 b1 b2 = b0 :: [b1, b2].take (lengthOfFirstByte b0 - 1) :=
  List.take_cons (lengthOfFirstByte_pos b0)

theorem streamHead_of_illegal {b0 : Byte} (h : b0 ∈ illegalBytes) (b1 b2 : Byte) : streamHead b0 b1 b2 = [b0] := by
  have key : ∀ b ∈ illegalBytes, lengthOfFirstByte b = 1 := by decide
  rw [streamHead, key b0 h, List.take_one, List.head?_cons, Option.toList_some]

/-! ## The bytes of a decoded instruction

A row's operand is a word or the word's low byte, so the blocks are stated over the word that b1 and b2 make; each row
then encodes by computation. -/

theorem encode_decodeCb (op2 : Byte) : (decodeCb op2).encode = [0xCB#8, op2] := by
  revert op2
  decide

theorem encode_decodeBlock0 (y z : BitVec 3) (w : Word16) :
    (decodeBlock0 (opcodeByte 0#2 y z) (loByte w) w).encode =
      streamHead (opcodeByte 0#2 y z) (loByte w) (hiByte w) := by
  cases z using code_cases <;> cases y using code_cases <;> rfl

theorem encode_decodeBlock1 (y z : BitVec 3) (b1 b2 : Byte) :
    (decodeBlock1 (opcodeByte 1#2 y z)).encode = streamHead (opcodeByte 1#2 y z) b1 b2 := by
  cases z using code_cases <;> cases y using code_cases <;> rfl

theorem encode_decodeBlock2 (y z : BitVec 3) (b1 b2 : Byte) :
    (decodeBlock2 (opcodeByte 2#2 y z)).encode = streamHead (opcodeByte 2#2 y z) b1 b2 := by
  cases z using code_cases <;> cases y using code_cases <;> rfl

/-- The row of 0xCB, at z = 3 and y = 1, is the CB table's. -/
theorem encode_decodeBlock3 (y z : BitVec 3) (w : Word16) :
    (decodeBlock3 (opcodeByte 3#2 y z) (loByte w) w).encode =
      streamHead (opcodeByte 3#2 y z) (loByte w) (hiByte w) := by
  cases z using code_cases with
  | c3 =>
    cases y using code_cases with
    | c1 => exact encode_decodeCb (loByte w)
    | _ => rfl
  | _ => cases y using code_cases <;> rfl

theorem encode_decodeWindow (b0 b1 b2 : Byte) : (decodeWindow b0 b1 b2).encode = streamHead b0 b1 b2 := by
  rw [← opcodeByte_fields b0]
  generalize fieldX b0 = x, fieldY b0 = y, fieldZ b0 = z
  rw [decodeWindow, fieldX_opcodeByte]
  cases x using block_cases with
  | block0 => simpa using encode_decodeBlock0 y z (joinBytes b2 b1)
  | block1 => exact encode_decodeBlock1 y z b1 b2
  | block2 => exact encode_decodeBlock2 y z b1 b2
  | block3 => simpa using encode_decodeBlock3 y z (joinBytes b2 b1)

/-- The first byte of the stream is the first byte of what it decodes to. -/
theorem eq_of_encode_decodeWindow {b0 b1 b2 b : Byte} {operands : List Byte}
    (h : (decodeWindow b0 b1 b2).encode = b :: operands) : b0 = b := by
  rw [encode_decodeWindow, streamHead_eq_cons] at h
  exact List.head_eq_of_cons_eq h

/-- The bare 0xCB is one byte, where the stream's 0xCB is followed by the byte that selects a CB row. -/
theorem decodeWindow_wellFormed (b0 b1 b2 : Byte) : (decodeWindow b0 b1 b2).WellFormed := by
  intro hp
  have bare : (decodeWindow b0 b1 b2).encode = [0xCB#8] := congrArg Instr.encode hp
  obtain rfl := eq_of_encode_decodeWindow bare
  have two : (decodeWindow 0xCB#8 b1 b2).encode = [0xCB#8, b1] := encode_decodeWindow _ _ _
  simp [two] at bare

theorem illegalRow_decodeWindow {b0 : Byte} (h : b0 ∈ illegalBytes) (b1 b2 : Byte) :
    (decodeWindow b0 b1 b2, b0) ∈ illegalRows :=
  illegalRow_of_encode ((encode_decodeWindow b0 b1 b2).trans (streamHead_of_illegal h b1 b2)) h

/-! ## An instruction from a list of bytes -/

/-- A list decodes to the instruction whose bytes it begins with, if the window at its head holds that instruction. -/
theorem decode_of_window {i : Instr} {b0 : Byte} {operands rest : List Byte} (he : i.encode = b0 :: operands)
    (whole : b0 = 0xCB#8 → operands ≠ [])
    (hw : decodeWindow b0 ((operands ++ rest).getD 0 0x00#8) ((operands ++ rest).getD 1 0x00#8) = i) :
    decode (i.encode ++ rest) = .ok (i, rest) := by
  have notBare : ¬(b0 = 0xCB#8 ∧ operands ++ rest = []) := fun ⟨hb, hr⟩ =>
    whole hb (List.append_eq_nil_iff.mp hr).1
  have hl : i.length = operands.length + 1 := by rw [Instr.length, he, List.length_cons]
  rw [he, List.cons_append, decode, if_neg notBare]
  simp only [hw, hl]
  simp

theorem decode_encode_append {i : Instr} (wf : i.WellFormed) (rest : List Byte) :
    decode (i.encode ++ rest) = .ok (i, rest) := by
  have reads := decodesFromWindow i wf (rest.getD 0 0x00#8) (rest.getD 1 0x00#8)
  split at reads
  · next b0 he =>
    obtain ⟨hw, len⟩ := reads
    have whole : b0 ≠ 0xCB#8 := by
      rintro rfl
      exact absurd len (by decide)
    exact decode_of_window he (fun hb => absurd hb whole) hw
  · next he => exact decode_of_window he (fun _ => List.cons_ne_nil _ _) reads.1
  · next he => exact decode_of_window he (fun _ => List.cons_ne_nil _ _) reads.1
  · exact reads.elim

/-- A list that is exactly the bytes of a whole instruction decodes to it, with no byte left. -/
theorem decode_of_encode_eq {i : Instr} {bytes : List Byte} (wf : i.WellFormed) (he : i.encode = bytes) :
    decode bytes = .ok (i, []) := by
  rw [← he, ← List.append_nil i.encode]
  exact decode_encode_append wf []

end Sys2Proof.Machine
end

section
/-! PROOFS. The statements about encoding and decoding. -/

namespace Sys2Proof.Machine

/-- Settles O1: by the number of the instruction's bytes, the decoder's window holding them at the head of the list. -/
theorem decodeOfEncodeIsIdentity : Obligations.DecodeOfEncodeIsIdentity := fun _ rest wf =>
  decode_encode_append wf rest

/-- Settles O2: by the four blocks of the decoder, each row of a block encoding to the bytes it was read from. -/
theorem encodeOfDecodeIsTheStream : Obligations.EncodeOfDecodeIsTheStream := fun b0 b1 b2 =>
  ⟨decodeWindow_wellFormed b0 b1 b2, encode_decodeWindow b0 b1 b2⟩

/-- Settles O4: an illegal row is one byte long, and the first byte of the stream is the first byte of what it decodes
to. -/
theorem illegalBytesAreTheEleven : Obligations.IllegalBytesAreTheEleven := fun _ b1 b2 =>
  ⟨⟨fun ⟨_, row, _⟩ => mem_illegalBytes_of_row row, fun hb => ⟨_, illegalRow_decodeWindow hb b1 b2, rfl⟩⟩,
    fun _ _ row hi => eq_of_encode_decodeWindow (hi ▸ encode_of_illegalRow row)⟩

/-- Settles O3: each word is the encoding of its instruction. -/
theorem writtenWordsDecode : Obligations.WrittenWordsDecode := by
  unfold Obligations.WrittenWordsDecode
  and_intros <;> exact decode_of_encode_eq nofun rfl

end Sys2Proof.Machine
end

section
/-! SUPPORT. The cost of every family of the opcode table, in the cycle tables (R58, R59) and in what it runs. -/

namespace Sys2Proof.Machine

open Sys2Proof.Claims

/-! ## The entries of the cycle tables -/

/-- The pair of figures of the base cycle table (R58) for an opcode byte. -/
def baseEntry (op : Byte) : Nat × Nat := (baseCycles.getD (op.toNat / 16) []).getD (op.toNat % 16) (0, 0)

/-- An entry with one figure is the cost whatever the flags are. -/
theorem baseCost_of_single {op : Byte} {n : Nat} (single : baseEntry op = (n, n)) (x : Flags) : baseCost op x = n := by
  have entry : (baseCycles.getD (op.toNat / 16) []).getD (op.toNat % 16) (0, 0) = (n, n) := single
  simp only [baseCost, entry, ite_self]

theorem tableCost_of_single {b0 : Byte} {operands : List Byte} {n : Nat} (base : b0 ≠ 0xCB#8)
    (single : baseEntry b0 = (n, n)) (x : Flags) : tableCost (b0 :: operands) x = n :=
  (if_neg base).trans (baseCost_of_single single x)

theorem tableCost_of_illegalRow {i : Instr} {b : Byte} (row : (i, b) ∈ illegalRows) (x : Flags) :
    tableCost i.encode x = 0 := by
  have key : ∀ b ∈ illegalBytes, b ≠ 0xCB#8 ∧ baseEntry b = (0, 0) := by decide
  obtain ⟨base, free⟩ := key b (mem_illegalBytes_of_row row)
  rw [encode_of_illegalRow row]
  exact tableCost_of_single base free x

/-! ## The table's cost of a family -/

theorem tableCost_mkLoadPair (p : Pair) (n16 : Word16) (x : Flags) :
    tableCost (Instr.mkLoadPair p n16).encode x = 12 := by
  cases p <;> exact tableCost_of_single (by decide) rfl x

theorem tableCost_mkLoadA (m : AddrMode) (x : Flags) : tableCost (Instr.mkLoadA m).encode x = modeCost m := by
  cases m <;> exact tableCost_of_single (by decide) rfl x

theorem tableCost_mkStoreA (m : AddrMode) (x : Flags) : tableCost (Instr.mkStoreA m).encode x = modeCost m := by
  cases m <;> exact tableCost_of_single (by decide) rfl x

theorem tableCost_mkLoadImm (r : Reg8) (n8 : Byte) (x : Flags) : tableCost (Instr.mkLoadImm r n8).encode x = 8 := by
  cases r <;> exact tableCost_of_single (by decide) rfl x

theorem tableCost_mkMove (dst src : Reg8) (x : Flags) : tableCost (Instr.mkMove dst src).encode x = 4 := by
  cases dst <;> cases src <;> exact tableCost_of_single (by decide) rfl x

theorem tableCost_mkLoadAtHl (r : Reg8) (x : Flags) : tableCost (Instr.mkLoadAtHl r).encode x = 8 := by
  cases r <;> exact tableCost_of_single (by decide) rfl x

theorem tableCost_mkStoreAtHl (r : Reg8) (x : Flags) : tableCost (Instr.mkStoreAtHl r).encode x = 8 := by
  cases r <;> exact tableCost_of_single (by decide) rfl x

theorem tableCost_mkAddHl (p : Pair) (x : Flags) : tableCost (Instr.mkAddHl p).encode x = 8 := by
  cases p <;> exact tableCost_of_single (by decide) rfl x

theorem tableCost_mkIncPair (p : Pair) (x : Flags) : tableCost (Instr.mkIncPair p).encode x = 8 := by
  cases p <;> exact tableCost_of_single (by decide) rfl x

theorem tableCost_mkDecPair (p : Pair) (x : Flags) : tableCost (Instr.mkDecPair p).encode x = 8 := by
  cases p <;> exact tableCost_of_single (by decide) rfl x

theorem tableCost_mkInc (o : Operand8) (x : Flags) : tableCost (Instr.mkInc o).encode x = incDecCost o := by
  cases o with
  | reg r => cases r <;> exact tableCost_of_single (by decide) rfl x
  | atHl => exact tableCost_of_single (by decide) rfl x

theorem tableCost_mkDec (o : Operand8) (x : Flags) : tableCost (Instr.mkDec o).encode x = incDecCost o := by
  cases o with
  | reg r => cases r <;> exact tableCost_of_single (by decide) rfl x
  | atHl => exact tableCost_of_single (by decide) rfl x

theorem tableCost_mkAlu (op : AluOp) (src : Source) (x : Flags) :
    tableCost (Instr.mkAlu op src).encode x = sourceCost src := by
  cases src with
  | reg r => cases op <;> cases r <;> exact tableCost_of_single (by decide) rfl x
  | atHl => cases op <;> exact tableCost_of_single (by decide) rfl x
  | imm n8 => cases op <;> exact tableCost_of_single (by decide) rfl x

theorem tableCost_mkPush (q : StackPair) (x : Flags) : tableCost (Instr.mkPush q).encode x = 16 := by
  cases q <;> exact tableCost_of_single (by decide) rfl x

theorem tableCost_mkPop (q : StackPair) (x : Flags) : tableCost (Instr.mkPop q).encode x = 12 := by
  cases q <;> exact tableCost_of_single (by decide) rfl x

theorem tableCost_mkRst (y : BitVec 3) (x : Flags) : tableCost (Instr.mkRst y).encode x = 16 := by
  cases y using code_cases <;> exact tableCost_of_single (by decide) rfl x

theorem tableCost_mkJump (cc : Cond) (a16 : Word16) (x : Flags) :
    tableCost (Instr.mkJump cc a16).encode x = if holds cc x then 16 else 12 := by
  cases cc <;> rfl

theorem tableCost_mkJumpRel (cc : Cond) (e8 : Byte) (x : Flags) :
    tableCost (Instr.mkJumpRel cc e8).encode x = if holds cc x then 12 else 8 := by
  cases cc <;> rfl

theorem tableCost_mkCall (cc : Cond) (a16 : Word16) (x : Flags) :
    tableCost (Instr.mkCall cc a16).encode x = if holds cc x then 24 else 12 := by
  cases cc <;> rfl

theorem tableCost_mkRet (cc : Cond) (x : Flags) :
    tableCost (Instr.mkRet cc).encode x = if holds cc x then 20 else 8 := by
  cases cc <;> rfl

theorem tableCost_mkRot (op : RotOp) (o : Operand8) (x : Flags) :
    tableCost (Instr.mkRot op o).encode x = cbCost o := by
  cases o with
  | reg r => cases op <;> cases r <;> rfl
  | atHl => cases op <;> rfl

theorem tableCost_mkBit (b : BitVec 3) (o : Operand8) (x : Flags) :
    tableCost (Instr.mkBit b o).encode x = bitCost o := by
  cases o with
  | reg r => cases b using code_cases <;> cases r <;> rfl
  | atHl => cases b using code_cases <;> rfl

theorem tableCost_mkRes (b : BitVec 3) (o : Operand8) (x : Flags) :
    tableCost (Instr.mkRes b o).encode x = cbCost o := by
  cases o with
  | reg r => cases b using code_cases <;> cases r <;> rfl
  | atHl => cases b using code_cases <;> rfl

theorem tableCost_mkSet (b : BitVec 3) (o : Operand8) (x : Flags) :
    tableCost (Instr.mkSet b o).encode x = cbCost o := by
  cases o with
  | reg r => cases b using code_cases <;> cases r <;> rfl
  | atHl => cases b using code_cases <;> rfl

/-! ## The cost of what a family runs -/

/-- A result that is a next state, `n` cycles later. -/
def Costs (n : Nat) (s : State) (r : Result) : Prop := ∃ t : State, r = .next t ∧ t.cycles = s.cycles + n

theorem costs_finish {cost n : Nat} {s u : State} (price : n = cost) (same : u.cycles = s.cycles) :
    Costs n s (finish cost u) :=
  ⟨_, rfl, by rw [State.addCycles_cycles, same, price]⟩

/-- The spec's condition on the flags is the model's (R65, R173). -/
theorem State.cond_eq_holds (s : State) (cc : Cond) : s.cond cc = holds cc s.flags := by cases cc <;> rfl

/-- A conditional instruction costs the figure of the branch it takes; its fetches leave the condition as it was. -/
theorem costs_conditional {taken missed n k : Nat} {cc : Cond} {s u v : State}
    (price : n = if holds cc s.flags then taken else missed) (sameTaken : u.cycles = s.cycles)
    (sameMissed : v.cycles = s.cycles) :
    Costs n s (if (s.fetched k).cond cc then finish taken u else finish missed v) := by
  rw [State.fetched_cond, State.cond_eq_holds]
  split
  · next met => exact costs_finish (price.trans (if_pos met)) sameTaken
  · next unmet => exact costs_finish (price.trans (if_neg unmet)) sameMissed

theorem setOperand_cycles (s : State) (o : Operand8) (v : Byte) : (s.setOperand o v).cycles = s.cycles := by
  cases o with
  | reg r => exact State.setReg_cycles s r v
  | atHl => rfl

theorem postModify_cycles (s : State) (m : AddrMode) : (s.postModify m).cycles = s.cycles := by cases m <;> rfl

theorem decodeFault_cycles (s : State) (b : Byte) : (s.decodeFault b).cycles = s.cycles := State.fetched_cycles 1 s

theorem haltCore_costs {n : Nat} (price : n = 4) (s : State) : Costs n s (haltCore s) := by
  rcases haltCore_cases s with ⟨-, h⟩ | ⟨-, h⟩ <;> exact h ▸ costs_finish price (State.fetched_cycles 1 s)

/-- Every instruction of the table answers a next state, at the cost of its entry. -/
theorem Family.costs {i : Instr} (h : Family i) (s : State) : Costs (tableCost i.encode s.flags) s (exec i s) := by
  have single {b0 : Byte} {operands : List Byte} {n : Nat} (base : b0 ≠ 0xCB#8) (entry : baseEntry b0 = (n, n)) :
      tableCost (b0 :: operands) s.flags = n := tableCost_of_single base entry s.flags
  have same (n : Nat) : (s.fetched n).cycles = s.cycles := State.fetched_cycles n s
  cases h with
  | nop => exact costs_finish (single (by decide) rfl) (same 1)
  | storeSp a16 => exact costs_finish (single (by decide) rfl) (same 3)
  | stop n8 => exact costs_finish (single (by decide) rfl) (same 2)
  | halt => exact haltCore_costs (single (by decide) rfl) s
  | loadPair p n16 => rw [exec_mkLoadPair]; exact costs_finish (tableCost_mkLoadPair p n16 _) (by simp)
  | loadA m => rw [exec_mkLoadA]; exact costs_finish (tableCost_mkLoadA m _) (by simp [postModify_cycles])
  | storeA m => rw [exec_mkStoreA]; exact costs_finish (tableCost_mkStoreA m _) (by simp [postModify_cycles])
  | loadImm r n8 => rw [exec_mkLoadImm]; exact costs_finish (tableCost_mkLoadImm r n8 _) (by simp)
  | storeImm n8 => exact costs_finish (single (by decide) rfl) (same 2)
  | move dst src => rw [exec_mkMove]; exact costs_finish (tableCost_mkMove dst src _) (by simp)
  | loadAtHl r => rw [exec_mkLoadAtHl]; exact costs_finish (tableCost_mkLoadAtHl r _) (by simp)
  | storeAtHl r => rw [exec_mkStoreAtHl]; exact costs_finish (tableCost_mkStoreAtHl r _) (by simp)
  | loadSpHl => exact costs_finish (single (by decide) rfl) (same 1)
  | addHl p => rw [exec_mkAddHl]; exact costs_finish (tableCost_mkAddHl p _) (by simp)
  | incPair p => rw [exec_mkIncPair]; exact costs_finish (tableCost_mkIncPair p _) (by simp)
  | decPair p => rw [exec_mkDecPair]; exact costs_finish (tableCost_mkDecPair p _) (by simp)
  | inc o => rw [exec_mkInc]; exact costs_finish (tableCost_mkInc o _) (by simp [setOperand_cycles])
  | dec o => rw [exec_mkDec]; exact costs_finish (tableCost_mkDec o _) (by simp [setOperand_cycles])
  | alu op src => rw [exec_mkAlu]; exact costs_finish (tableCost_mkAlu op src _) (by simp)
  | addSp e8 => exact costs_finish (single (by decide) rfl) (same 2)
  | loadHlSp e8 => exact costs_finish (single (by decide) rfl) (same 2)
  | rlca => exact costs_finish (single (by decide) rfl) (by simp)
  | rrca => exact costs_finish (single (by decide) rfl) (by simp)
  | rla => exact costs_finish (single (by decide) rfl) (by simp)
  | rra => exact costs_finish (single (by decide) rfl) (by simp)
  | daa => exact costs_finish (single (by decide) rfl) (by simp)
  | cpl => exact costs_finish (single (by decide) rfl) (by simp)
  | scf => exact costs_finish (single (by decide) rfl) (same 1)
  | ccf => exact costs_finish (single (by decide) rfl) (same 1)
  | push q => rw [exec_mkPush]; exact costs_finish (tableCost_mkPush q _) (by simp)
  | pop q => rw [exec_mkPop]; exact costs_finish (tableCost_mkPop q _) (by simp)
  | jump a16 => exact costs_finish (single (by decide) rfl) (same 3)
  | jumpIf cc a16 => rw [exec_mkJump]; exact costs_conditional (tableCost_mkJump cc a16 _) (same 3) (same 3)
  | jumpHl => exact costs_finish (single (by decide) rfl) (same 1)
  | jumpRel e8 => exact costs_finish (single (by decide) rfl) (same 2)
  | jumpRelIf cc e8 =>
    rw [exec_mkJumpRel]; exact costs_conditional (tableCost_mkJumpRel cc e8 _) (same 2) (same 2)
  | call a16 => exact costs_finish (single (by decide) rfl) (same 3)
  | callIf cc a16 => rw [exec_mkCall]; exact costs_conditional (tableCost_mkCall cc a16 _) (same 3) (same 3)
  | ret => exact costs_finish (single (by decide) rfl) (same 1)
  | retIf cc => rw [exec_mkRet]; exact costs_conditional (tableCost_mkRet cc _) (same 1) (same 1)
  | reti => exact costs_finish (single (by decide) rfl) (same 1)
  | restart y => rw [exec_mkRst]; exact costs_finish (tableCost_mkRst y _) (by simp)
  | di => exact costs_finish (single (by decide) rfl) (same 1)
  | ei => exact costs_finish (single (by decide) rfl) (same 1)
  | illegal row =>
    rw [exec_of_illegalRow row, tableCost_of_illegalRow row]
    exact ⟨_, rfl, decodeFault_cycles s _⟩
  | rot op o => rw [exec_mkRot]; exact costs_finish (tableCost_mkRot op o _) (by simp [setOperand_cycles])
  | bit y o => rw [exec_mkBit]; exact costs_finish (tableCost_mkBit y o _) (by simp)
  | res y o => rw [exec_mkRes]; exact costs_finish (tableCost_mkRes y o _) (by simp [setOperand_cycles])
  | set y o => rw [exec_mkSet]; exact costs_finish (tableCost_mkSet y o _) (by simp [setOperand_cycles])

end Sys2Proof.Machine
end

section
/-! SUPPORT. The fetch read off the stream, 0xCB as the CB row its second byte selects, the three kinds of step, each by
its own condition, what a step leaves in the fault and the cycle count, and the host's actions. -/

namespace Sys2Proof.Machine

open Sys2Proof.Claims

/-! ## The fetch, and what 0xCB runs -/

theorem State.streamBytes_first (s : State) : s.streamBytes.getD 0 0x00#8 = s.fetch8.1 := by
  cases h : s.haltBug <;> simp [State.streamBytes, h]

theorem State.streamBytes_second (s : State) : s.streamBytes.getD 1 0x00#8 = s.fetch8.2.fetch8.1 := by
  cases h : s.haltBug <;> simp [State.streamBytes, h]

/-- A row of the CB table runs what 0xCB runs for its second byte (R55, R74). -/
theorem exec_decodeCb (op2 : Byte) (s : State) : exec (decodeCb op2) s = runCb op2 s := by
  unfold decodeCb runCb
  generalize fieldX op2 = x
  cases x using block_cases with
  | block0 => exact exec_mkRot _ _ s
  | block1 => exact exec_mkBit _ _ s
  | block2 => exact exec_mkRes _ _ s
  | block3 => exact exec_mkSet _ _ s

theorem exec_prefixCb (s : State) : exec .prefixCb s = exec (decodeCb (s.streamBytes.getD 1 0x00#8)) s := by
  rw [exec_decodeCb, s.streamBytes_second]
  rfl

/-- Of the instructions only HALT leaves the halt bug armed (R29, R202). -/
theorem ControlCase.haltBug_cleared {i : Instr} {s t : State} (h : ControlCase s i t) (notHalt : i ≠ .halt) :
    t.haltBug = false := by
  cases h with
  | quiet q => exact q.haltBug
  | di => exact State.fetched_haltBug 0 s
  | ei => exact State.fetched_haltBug 0 s
  | reti => exact State.fetched_haltBug 0 s
  | halted _ => exact absurd rfl notHalt
  | haltBug _ => exact absurd rfl notHalt
  | stop _ => exact State.fetched_haltBug 1 s
  | illegal _ => exact State.fetched_haltBug 0 s

theorem decodeCb_advanced (op2 : Byte) (s : State) :
    ∃ t : State, exec (decodeCb op2) s = .next t ∧ Advanced 2 (cbCycles op2) s t := by
  have he := encode_decodeCb op2
  have family := decodeCb_family op2
  have plain : ∀ b ∈ transferBytes, (decodeCb op2).encode.head? ≠ some b := by
    rintro b transfer head
    rw [he] at head
    cases head
    exact absurd transfer (by decide)
  have notHalt : decodeCb op2 ≠ .halt := by
    intro halt
    have oneByte : [0xCB#8, op2] = [0x76#8] := he.symm.trans (congrArg Instr.encode halt)
    exact absurd (congrArg List.length oneByte) nofun
  obtain ⟨t, ht, cycles⟩ := family.costs s
  have pc := family.advances s plain t ht
  rw [he] at pc cycles
  exact ⟨t, ht, pc, (exec_controlCase ht).haltBug_cleared notHalt, cycles⟩

/-! ## The step, by the condition of its arm -/

/-- An idle core does not reach the instruction boundary. -/
theorem State.Idle.not_awake {s : State} (idle : s.Idle) : ¬s.Awake := by
  rintro ⟨-, run | ⟨halted, pending⟩⟩ <;> rcases idle.2 with stopped | ⟨halted', quiet⟩
  · exact absurd (run.symm.trans stopped) nofun
  · exact absurd (run.symm.trans halted') nofun
  · exact absurd (halted.symm.trans stopped) nofun
  · exact pending quiet

theorem step_of_idle {s : State} (idle : s.Idle) : step s = .next (s.addCycles 4) := by
  rcases step_cases idle.1 with ⟨-, hs⟩ | ⟨awake, -, -⟩ | ⟨runs, -⟩
  · exact hs
  · exact absurd awake idle.not_awake
  · exact absurd runs.1 idle.not_awake

theorem step_of_interrupt {s : State} (awake : s.Awake) (due : s.InterruptDue) :
    step s = .next ((({ s with mode := .run } : State).interruptEntry (lowestPending s.pending)).addCycles 20) := by
  rcases step_cases awake.1 with ⟨idle, -⟩ | ⟨-, -, hs⟩ | ⟨runs, -⟩
  · exact absurd awake idle.not_awake
  · exact hs
  · exact absurd due runs.2.1

theorem step_of_runs {s : State} {i : Instr} (runs : s.Runs i) :
    ∃ u : State, exec i { s with mode := .run } = .next u ∧ step s = .next (u.afterInstruction s.eiPending) := by
  rcases step_cases runs.1.1 with ⟨idle, -⟩ | ⟨-, due, -⟩ | ⟨-, hs⟩
  · exact absurd runs.1 idle.not_awake
  · exact absurd due runs.2.1
  · rwa [runs.instr]

/-- What a step runs is a whole instruction: the stream is never the bare 0xCB (R77). -/
theorem State.Runs.wellFormed {s : State} {i : Instr} (runs : s.Runs i) : i.WellFormed := by
  rw [runs.instr, State.nextInstr_eq]
  split <;> exact decodeWindow_wellFormed _ _ _

/-! ## The delayed EI -/

/-- The effect of a previous EI as one condition (R54). -/
theorem State.afterInstruction_def (s : State) (pending : Bool) :
    s.afterInstruction pending =
      if pending = true ∧ s.eiPending = true ∧ s.fault = none
        then { s with ime := true, eiPending := false } else s := by
  refine if_congr ?_ rfl rfl
  rw [Bool.and_eq_true, Bool.and_eq_true, Option.isNone_iff_eq_none]
  tauto

theorem State.afterInstruction_of_fault {s : State} (h : s.fault ≠ none) (pending : Bool) :
    s.afterInstruction pending = s := by
  rw [s.afterInstruction_def, if_neg fun hp => h hp.2.2]

theorem State.afterInstruction_of_not_eiPending {s : State} (h : s.eiPending = false) (pending : Bool) :
    s.afterInstruction pending = s := by
  rw [s.afterInstruction_def, if_neg (by simp [h])]

@[simp] theorem State.afterInstruction_fault (s : State) (pending : Bool) :
    (s.afterInstruction pending).fault = s.fault := by
  rcases s.afterInstruction_eq pending with he | ⟨-, -, -, he⟩ <;> rw [he]

@[simp] theorem State.afterInstruction_cycles (s : State) (pending : Bool) :
    (s.afterInstruction pending).cycles = s.cycles := by
  rcases s.afterInstruction_eq pending with he | ⟨-, -, -, he⟩ <;> rw [he]

/-- Of the instructions only DI clears ei_pending (R27). -/
theorem ControlCase.eiPending_kept {i : Instr} {s t : State} (h : ControlCase s i t) (notDi : i ≠ .di)
    (pending : s.eiPending = true) : t.eiPending = true := by
  have fetches (n : Nat) : (s.fetched n).eiPending = true := (State.fetched_eiPending n s).trans pending
  cases h with
  | quiet q => exact q.eiPending.trans pending
  | di => exact absurd rfl notDi
  | ei => rfl
  | reti => exact fetches 1
  | halted _ => exact fetches 1
  | haltBug _ => exact fetches 1
  | stop _ => exact fetches 2
  | illegal _ => exact fetches 1

/-! ## The fault and the cycle count -/

/-- Of the instructions only the illegal rows record a fault (R230, R231). -/
theorem ControlCase.fault_kept {i : Instr} {s t : State} (h : ControlCase s i t)
    (legal : ∀ b : Byte, (i, b) ∉ illegalRows) : t.fault = s.fault := by
  cases h with
  | quiet q => exact q.fault
  | di => exact State.fetched_fault 1 s
  | ei => exact State.fetched_fault 1 s
  | reti => exact State.fetched_fault 1 s
  | halted _ => exact State.fetched_fault 1 s
  | haltBug _ => exact State.fetched_fault 1 s
  | stop _ => exact State.fetched_fault 2 s
  | illegal row => exact absurd row (legal _)

/-- The step of an instruction that is no illegal row: no fault is recorded, and the cycle count grows by the table's
entry (R53). -/
theorem step_of_runs_legal {s : State} {i : Instr} (runs : s.Runs i) (legal : ∀ b : Byte, (i, b) ∉ illegalRows) :
    ∃ t : State, step s = .next t ∧ t.fault = none ∧ t.cycles = s.cycles + tableCost i.encode s.flags := by
  obtain ⟨u, hu, hs⟩ := step_of_runs runs
  obtain ⟨u', hu', cycles⟩ := (family_of_wellFormed runs.wellFormed).costs { s with mode := .run }
  cases hu.symm.trans hu'
  exact ⟨_, hs, (u.afterInstruction_fault _).trans (((exec_controlCase hu).fault_kept legal).trans runs.1.1),
    (u.afterInstruction_cycles _).trans cycles⟩

theorem decodeFault_faulted (s : State) (b : Byte) : (s.decodeFault b).fault ≠ none := nofun

/-- The step of an illegal row is its decode fault: the delayed EI has no effect after it (R231). -/
theorem step_of_runs_illegal {s : State} {i : Instr} {b : Byte} (runs : s.Runs i) (row : (i, b) ∈ illegalRows) :
    step s = .next (({ s with mode := .run } : State).decodeFault b) := by
  obtain ⟨u, hu, hs⟩ := step_of_runs runs
  cases hu.symm.trans (exec_of_illegalRow row _)
  rwa [State.afterInstruction_of_fault (decodeFault_faulted _ b)] at hs

/-- A step without a fault adds to the cycle count, and a faulting step leaves it (R53). -/
theorem step_cycles {s t : State} (h : step s = .next t) :
    (t.fault = none ∧ s.cycles ≤ t.cycles) ∨ (t.fault ≠ none ∧ t.cycles = s.cycles) := by
  have fault := fault_none_of_step h
  rcases step_cases fault with ⟨-, hs⟩ | ⟨-, -, hs⟩ | ⟨runs, -⟩
  · cases hs.symm.trans h
    exact .inl ⟨fault, Nat.le_add_right _ _⟩
  · cases hs.symm.trans h
    exact .inl ⟨fault, Nat.le_add_right _ _⟩
  · by_cases legal : ∀ b : Byte, (s.nextInstr, b) ∉ illegalRows
    · obtain ⟨t', ht, unfaulted, cycles⟩ := step_of_runs_legal runs legal
      cases ht.symm.trans h
      exact .inl ⟨unfaulted, cycles ▸ Nat.le_add_right _ _⟩
    · obtain ⟨b, row⟩ := not_forall_not.mp legal
      cases (step_of_runs_illegal runs row).symm.trans h
      exact .inr ⟨decodeFault_faulted _ b, decodeFault_cycles _ b⟩

/-! ## What a step returns -/

theorem stepReturn_of_next {s t : State} (h : step s = .next t) (unfaulted : t.fault = none) :
    stepReturn s = some (.ok (t.cycles - s.cycles)) := by
  simp only [stepReturn, h, unfaulted]

theorem stepReturn_of_cost {s t : State} {n : Nat} (h : step s = .next t) (unfaulted : t.fault = none)
    (cost : t.cycles = s.cycles + n) : stepReturn s = some (.ok n) := by
  rw [stepReturn_of_next h unfaulted, cost, Nat.add_sub_cancel_left]

/-! ## The host's actions -/

theorem State.wake_of_stopped {s : State} (stopped : s.mode = .stopped) : s.wake = { s with mode := .run } := by
  simp only [State.wake, stopped]

theorem State.wake_of_not_stopped {s : State} (notStopped : s.mode ≠ .stopped) : s.wake = s := by
  cases hm : s.mode with
  | stopped => exact absurd hm notStopped
  | halted => simp only [State.wake, hm]
  | run => simp only [State.wake, hm]

theorem State.Inv.writeByte {s : State} (h : s.Inv) (a : Word16) (v : Byte) : (s.writeByte a v).Inv :=
  ⟨Memory.wf_writeByte a v h.memory, h.lowNibble, h.haltBug, h.fault⟩

theorem State.Inv.wake {s : State} (h : s.Inv) : s.wake.Inv := by
  by_cases stopped : s.mode = .stopped
  · exact State.wake_of_stopped stopped ▸ h.running
  · rwa [State.wake_of_not_stopped stopped]

end Sys2Proof.Machine
end

section
/-! PROOFS. The statements about the fetch, the step, its cost and the host's actions. -/

namespace Sys2Proof.Machine

open Sys2Proof.Claims

/-- Settles O56: by the families of the table, each costing its entry in the branch it takes. -/
theorem instructionsCostTheirTableEntry : Obligations.InstructionsCostTheirTableEntry := fun _ s wf =>
  (family_of_wellFormed wf).costs s

/-- Settles O5: 0xCB runs what the row of the CB table runs, and that row's PC, halt bug and cost are known. -/
theorem prefixRunsTheSelectedCbInstruction : Obligations.PrefixRunsTheSelectedCbInstruction := by
  intro s op2
  obtain ⟨t, ht, advanced⟩ := decodeCb_advanced op2 s
  exact ⟨exec_prefixCb s, encode_decodeCb op2, t, (exec_prefixCb s).trans ht, advanced⟩

/-- Settles O16: only DI clears ei_pending and only an illegal row faults, so after any other instruction the delayed EI
takes effect. -/
theorem eiTakesEffectAfterTheNextInstruction : Obligations.EiTakesEffectAfterTheNextInstruction := by
  refine ⟨fun s i runs pending legal notDi => ?_, fun s runs => ?_, fun s i b runs row => ?_,
    fun s idle => ⟨_, step_of_idle idle, rfl, rfl⟩, fun s awake due => ⟨_, step_of_interrupt awake due, rfl, rfl⟩⟩
  · obtain ⟨u, hu, hs⟩ := step_of_runs runs
    have hc := exec_controlCase hu
    have takes : s.eiPending = true ∧ u.eiPending = true ∧ u.fault = none :=
      ⟨pending, hc.eiPending_kept notDi pending, (hc.fault_kept legal).trans runs.1.1⟩
    rw [State.afterInstruction_def, if_pos takes] at hs
    exact ⟨_, hs, rfl, rfl⟩
  · obtain ⟨u, hu, hs⟩ := step_of_runs runs
    cases hu
    rw [State.afterInstruction_of_not_eiPending rfl] at hs
    exact ⟨_, hs, rfl, rfl⟩
  · exact ⟨_, step_of_runs_illegal runs row, State.fetched_ime 1 _, State.fetched_eiPending 1 _⟩

/-- Settles O57: by the cost of each kind of step, a fault being recorded only by an illegal row, at no cost. -/
theorem stepReturnsItsCost : Obligations.StepReturnsItsCost := by
  refine ⟨fun s i runs legal => ?_, fun s awake due => ?_, fun s idle => ?_, fun s t h => ?_, fun s f hf t => ?_⟩
  · obtain ⟨t, ht, unfaulted, cost⟩ := step_of_runs_legal runs legal
    exact stepReturn_of_cost ht unfaulted cost
  · exact stepReturn_of_cost (step_of_interrupt awake due) awake.1 rfl
  · exact stepReturn_of_cost (step_of_idle idle) idle.1 rfl
  · rcases step_cycles h with ⟨unfaulted, le⟩ | ⟨faulted, same⟩
    · exact ⟨fun _ => ⟨le, stepReturn_of_next h unfaulted⟩, fun faulted => absurd unfaulted faulted⟩
    · exact ⟨fun unfaulted => absurd unfaulted faulted, fun _ => same⟩
  · exact step_faulted hf ▸ nofun

/-- Settles O14: Fetch16 is two Fetch8, and the stream's first two bytes are what they read. -/
theorem fetchReadsAtPc : Obligations.FetchReadsAtPc := by
  intro s
  have word16 : s.fetch16.1 = word (s.streamBytes.getD 1 0x00#8) (s.streamBytes.getD 0 0x00#8) := by
    rw [s.streamBytes_first, s.streamBytes_second, word_eq_joinBytes]
    rfl
  exact ⟨s.fetch8_byte, keepsAllBut_fetch8 s, s.fetch8_readByte, s.fetch8_haltBug, s.fetch8_pc, word16,
    State.fetched_pc 1 s, State.fetched_haltBug 1 s, keepsAllBut_fetched 2 s, State.fetched_readByte 2 s⟩

/-- Settles O15: the stream decodes to a whole instruction, and the step is its meaning with the delayed EI. -/
theorem stepRunsTheDecodedInstruction : Obligations.StepRunsTheDecodedInstruction := by
  intro s i runs
  obtain ⟨u, hu, hs⟩ := step_of_runs runs
  refine ⟨runs.wellFormed, ?_⟩
  rw [hs, hu, State.afterInstruction_def]

/-- Settles O18: a host write is a byte write, wake looks at the mode only, and creation meets the invariant. -/
theorem hostActionsDoOnlyTheirEffect : Obligations.HostActionsDoOnlyTheirEffect := by
  refine fun s => ⟨State.wake_of_stopped, State.wake_of_not_stopped, byteAccessReadsBack s, fun act inv => ?_⟩
  cases act with
  | create image resetPc resetSp => exact create_inv image resetPc resetSp
  | writeMem a v => exact inv.writeByte a v
  | wake => exact inv.wake

end Sys2Proof.Machine
end

section
/-! SUPPORT. What an instruction that only advances leaves of the state, the base modification of the addressing modes
(R131), and the encodings of the loads in the spec's own terms. -/

namespace Sys2Proof.Machine

open Sys2Proof.Claims

/-! ## An instruction that only advances

Between its fetches and the count of its cycles such an instruction writes none of `stepParts`, so its frame is the frame
of what it does there. -/

theorem advanced_of_kept {n cost : Nat} {ps : List Part} {s u : State} (kept : KeepsAllBut ps (s.fetched (n + 1)) u)
    (plain : ∀ p ∈ stepParts, p ∉ ps) : Advanced (n + 1) cost s (u.addCycles cost) := by
  have pc : u.pc = (s.fetched (n + 1)).pc := kept .pc (plain _ (by decide))
  have haltBug : u.haltBug = (s.fetched (n + 1)).haltBug := kept .haltBug (plain _ (by decide))
  have cycles : u.cycles = (s.fetched (n + 1)).cycles := kept .cycles (plain _ (by decide))
  exact ⟨pc.trans (State.fetched_pc n s), haltBug.trans (State.fetched_haltBug n s),
    congrArg (· + cost) (cycles.trans (State.fetched_cycles (n + 1) s))⟩

theorem keepsAllBut_addCycles_of_kept {n cost : Nat} {ps : List Part} {s u : State}
    (kept : KeepsAllBut ps (s.fetched n) u) : KeepsAllBut (ps ++ stepParts) s (u.addCycles cost) :=
  (((keepsAllBut_fetched n s).trans kept).trans (keepsAllBut_addCycles u cost)).mono fun p hp => by
    simp only [List.mem_append, List.mem_cons, List.not_mem_nil, or_false, stepParts] at hp ⊢
    tauto

/-- The frame of an instruction that writes registers only. -/
theorem frame_of_register_write {n cost : Nat} {ps : List Part} {s u : State}
    (kept : KeepsAllBut ps (s.fetched (n + 1)) u) (plain : ∀ p ∈ stepParts, p ∉ ps)
    (memory : KeepsMemory (s.fetched (n + 1)) u) :
    Advanced (n + 1) cost s (u.addCycles cost) ∧ KeepsAllBut (ps ++ stepParts) s (u.addCycles cost) ∧
      KeepsMemory s (u.addCycles cost) :=
  ⟨advanced_of_kept kept plain, keepsAllBut_addCycles_of_kept kept, fun a =>
    (memory a).trans (State.fetched_readByte (n + 1) s a)⟩

/-- The frame of an instruction that writes the bytes at some addresses. -/
theorem frame_of_memory_write {n cost : Nat} {ps : List Part} {addrs : List Word16} {s u : State}
    (kept : KeepsAllBut ps (s.fetched (n + 1)) u) (plain : ∀ p ∈ stepParts, p ∉ ps)
    (memory : KeepsMemoryBut addrs (s.fetched (n + 1)) u) :
    Advanced (n + 1) cost s (u.addCycles cost) ∧ KeepsAllBut (ps ++ stepParts) s (u.addCycles cost) ∧
      KeepsMemoryBut addrs s (u.addCycles cost) :=
  ⟨advanced_of_kept kept plain, keepsAllBut_addCycles_of_kept kept, fun a other =>
    (memory a other).trans (State.fetched_readByte (n + 1) s a)⟩

/-! ## The parts a load writes are none of `stepParts` -/

theorem regPart_plain (r : Reg8) : ∀ p ∈ stepParts, p ∉ [regPart r] := by
  cases r <;> decide

theorem pairParts_plain (p : Pair) : ∀ q ∈ stepParts, q ∉ pairParts p := by
  cases p <;> decide

theorem modeParts_cases (m : AddrMode) : modeParts m = [.regH, .regL] ∨ modeParts m = [] := by
  cases m with
  | atHlInc | atHlDec => exact .inl rfl
  | atBc | atDe | atA16 | atA8 | atC => exact .inr rfl

theorem regA_not_mem_modeParts (m : AddrMode) : .regA ∉ modeParts m := by
  rcases modeParts_cases m with h | h <;> rw [h] <;> decide

theorem modeParts_plain (m : AddrMode) : ∀ p ∈ stepParts, p ∉ modeParts m := by
  rcases modeParts_cases m with h | h <;> rw [h] <;> decide

theorem regA_modeParts_plain (m : AddrMode) : ∀ p ∈ stepParts, p ∉ .regA :: modeParts m := by
  rcases modeParts_cases m with h | h <;> rw [h] <;> decide

/-! ## Addressing modes -/

/-- `0xFF00 | a8` as a sum (R68). -/
theorem highPage_eq (a8 : Byte) : highPage a8 = BitVec.ofNat 16 (0xFF00 + a8.toNat) := by
  apply BitVec.eq_of_toNat_eq
  have small := a8.isLt
  have disjoint : 2 ^ 8 * 0xFF + a8.toNat = 2 ^ 8 * 0xFF ||| a8.toNat := Nat.two_pow_add_eq_or_of_lt small 0xFF
  rw [highPage, BitVec.toNat_or, BitVec.toNat_setWidth, BitVec.toNat_ofNat, BitVec.toNat_ofNat,
    Nat.mod_eq_of_lt (by omega : a8.toNat < 2 ^ 16), Nat.mod_eq_of_lt (by omega : 0xFF00 + a8.toNat < 2 ^ 16)]
  exact disjoint.symm

/-- The spec's effective address (R131) is the model's. -/
theorem State.effectiveAddress_eq_address (s : State) (m : AddrMode) : s.effectiveAddress m = address m s := by
  cases m with
  | atA8 a8 => exact highPage_eq a8
  | atC => exact highPage_eq (s.reg .c)
  | atBc | atDe | atHlInc | atHlDec | atA16 => rfl

theorem State.postModify_hl (s : State) (m : AddrMode) : (s.postModify m).hl = hlAfter m s := by
  cases m <;> rfl

@[simp] theorem State.postModify_readByte (s : State) (m : AddrMode) (a : Word16) :
    (s.postModify m).readByte a = s.readByte a := by
  cases m <;> rfl

theorem keepsAllBut_postModify (s : State) (m : AddrMode) : KeepsAllBut (modeParts m) s (s.postModify m) := by
  cases m with
  | atHlInc => exact keepsAllBut_hl s (s.hl + 1#16)
  | atHlDec => exact keepsAllBut_hl s (s.hl - 1#16)
  | atBc | atDe | atA16 | atA8 | atC => exact KeepsAllBut.refl [] s

@[simp] theorem State.postModify_reg_a (s : State) (m : AddrMode) : (s.postModify m).reg .a = s.reg .a :=
  keepsAllBut_postModify s m .regA (regA_not_mem_modeParts m)

/-- HL after the base modification depends on HL alone. -/
theorem hlAfter_congr {s t : State} (m : AddrMode) (h : t.hl = s.hl) : hlAfter m t = hlAfter m s := by
  cases m <;> simp only [hlAfter, h]

theorem modeLength_eq_succ (m : AddrMode) : ∃ k : Nat, modeLength m = k + 1 := by
  cases m <;> exact ⟨_, rfl⟩

theorem modeCycles_eq_modeCost (m : AddrMode) : modeCycles m = modeCost m := by
  cases m <;> rfl

/-! ## The loads by the state before their fetches

The fetches leave all that a load reads, so the statements' values are those of the state before them. -/

theorem storeImm_eq (n8 : Byte) (s : State) : storeImm n8 s = finish 12 ((s.fetched 2).writeByte s.hl n8) := by
  rw [storeImm, State.fetched_hl]

theorem moveReg_eq (dst src : Reg8) (s : State) :
    moveReg dst src s = finish 4 ((s.fetched 1).setReg dst (s.reg src)) := by
  rw [moveReg, State.fetched_reg]

theorem loadIndirect_eq (r : Reg8) (s : State) :
    loadIndirect r s = finish 8 ((s.fetched 1).setReg r (s.readByte s.hl)) := by
  rw [loadIndirect, State.fetched_hl, State.fetched_readByte]

theorem storeIndirect_eq (r : Reg8) (s : State) :
    storeIndirect r s = finish 8 ((s.fetched 1).writeByte s.hl (s.reg r)) := by
  rw [storeIndirect, State.fetched_hl, State.fetched_reg]

theorem storeSp_eq (a16 : Word16) (s : State) : storeSp a16 s = finish 20 ((s.fetched 3).writeWord a16 s.sp) := by
  rw [storeSp, State.fetched_sp]

theorem loadSpHl_eq (s : State) : loadSpHl s = finish 8 { s.fetched 1 with sp := s.hl } :=
  congrArg (fun v => finish 8 { s.fetched 1 with sp := v }) (State.fetched_hl 1 s)

theorem loadAccumulator_eq (m : AddrMode) (s : State) :
    loadAccumulator m s = finish (modeCost m)
      (((s.fetched (modeLength m)).setReg .a (s.readByte (address m s))).postModify m) := by
  rw [loadAccumulator, State.fetched_readByte, State.fetched_effectiveAddress, State.effectiveAddress_eq_address]

theorem storeAccumulator_eq (m : AddrMode) (s : State) :
    storeAccumulator m s = finish (modeCost m)
      (((s.fetched (modeLength m)).writeByte (address m s) (s.reg .a)).postModify m) := by
  rw [storeAccumulator, State.fetched_effectiveAddress, State.fetched_reg, State.effectiveAddress_eq_address]

/-! ## Encodings -/

/-- The two operand bytes of a word (R68) are its low and its high byte. -/
theorem wordBytes_eq (w : Word16) : wordBytes w = [loByte w, hiByte w] := by
  rw [wordBytes, ← loByte_eq_byte, ← hiByte_eq_byte]

theorem encode_mkLoadPair (p : Pair) (n16 : Word16) :
    (Instr.mkLoadPair p n16).encode = byte (0x01 + 16 * pairCode p) :: wordBytes n16 := by
  rw [wordBytes_eq]
  cases p <;> rfl

theorem encode_mkLoadImm (r : Reg8) (n8 : Byte) :
    (Instr.mkLoadImm r n8).encode = [byte (0x06 + 8 * regCode r), n8] := by
  cases r <;> rfl

theorem encode_mkMove (dst src : Reg8) :
    (Instr.mkMove dst src).encode = [byte (0x40 + 8 * regCode dst + regCode src)] := by
  cases dst <;> cases src <;> rfl

theorem encode_mkLoadAtHl (r : Reg8) : (Instr.mkLoadAtHl r).encode = [byte (0x46 + 8 * regCode r)] := by
  cases r <;> rfl

theorem encode_mkStoreAtHl (r : Reg8) : (Instr.mkStoreAtHl r).encode = [byte (0x70 + regCode r)] := by
  cases r <;> rfl

theorem encode_mkLoadA (m : AddrMode) : (Instr.mkLoadA m).encode = loadABytes m := by
  cases m with
  | atA16 a16 => exact congrArg (0xFA#8 :: ·) (wordBytes_eq a16).symm
  | atBc | atDe | atHlInc | atHlDec | atA8 | atC => rfl

theorem encode_mkStoreA (m : AddrMode) : (Instr.mkStoreA m).encode = storeABytes m := by
  cases m with
  | atA16 a16 => exact congrArg (0xEA#8 :: ·) (wordBytes_eq a16).symm
  | atBc | atDe | atHlInc | atHlDec | atA8 | atC => rfl

theorem length_loadABytes (m : AddrMode) : (loadABytes m).length = modeLength m := by
  rw [← encode_mkLoadA, length_mkLoadA]

theorem length_storeABytes (m : AddrMode) : (storeABytes m).length = modeLength m := by
  rw [← encode_mkStoreA, length_mkStoreA]

end Sys2Proof.Machine
end

section
/-! PROOFS. The statements about NOP and the load instructions. -/

namespace Sys2Proof.Machine

open Sys2Proof.Claims

/-- Settles O24: each writes its 16-bit register after the fetches, and nothing else. -/
theorem pairLoadsFillThePair : Obligations.PairLoadsFillThePair := by
  refine ⟨fun p n16 s => ⟨encode_mkLoadPair p n16, _, exec_mkLoadPair p n16 s, State.setPair_pair_same _ p n16, ?_⟩,
    fun s => ⟨rfl, _, loadSpHl_eq s, rfl, ?_⟩⟩
  · exact frame_of_register_write (keepsAllBut_setPair _ p n16) (pairParts_plain p) (State.setPair_readByte _ p n16)
  · exact frame_of_register_write (keepsAllBut_sp _ s.hl) (by decide) fun _ => rfl

/-- Settles O25: the byte is written to the register's view, or to memory at HL, which the fetches keep. -/
theorem immediateLoadsWriteTheByte : Obligations.ImmediateLoadsWriteTheByte := by
  refine ⟨fun r n8 s => ⟨encode_mkLoadImm r n8, _, exec_mkLoadImm r n8 s, State.setReg_reg_same _ r n8, ?_⟩,
    fun n8 s => ⟨rfl, _, storeImm_eq n8 s, State.readByte_writeByte_same _ s.hl n8, ?_⟩⟩
  · exact frame_of_register_write (keepsAllBut_setReg _ r n8) (regPart_plain r) (State.setReg_readByte _ r n8)
  · exact frame_of_memory_write (keepsAllBut_writeByte _ s.hl n8) (by decide) (keepsMemoryBut_writeByte _ s.hl n8)

/-- Settles O26: the fetch leaves the source as it was, and the destination's view is all that is written. -/
theorem registerMoveCopies : Obligations.RegisterMoveCopies := fun dst src s =>
  ⟨encode_mkMove dst src, _, (exec_mkMove dst src s).trans (moveReg_eq dst src s), State.setReg_reg_same _ dst _,
    frame_of_register_write (keepsAllBut_setReg _ dst _) (regPart_plain dst) (State.setReg_readByte _ dst _)⟩

/-- Settles O27: the access is at HL as the fetch leaves it, and a load writes the register's view after it. -/
theorem hlLoadsAndStoresMoveOneByte : Obligations.HlLoadsAndStoresMoveOneByte := by
  intro r s
  refine ⟨encode_mkLoadAtHl r, encode_mkStoreAtHl r,
    ⟨_, (exec_mkLoadAtHl r s).trans (loadIndirect_eq r s), State.setReg_reg_same _ r _, ?_⟩,
    ⟨_, (exec_mkStoreAtHl r s).trans (storeIndirect_eq r s), State.readByte_writeByte_same _ s.hl _, ?_⟩⟩
  · exact frame_of_register_write (keepsAllBut_setReg _ r _) (regPart_plain r) (State.setReg_readByte _ r _)
  · exact frame_of_memory_write (keepsAllBut_writeByte _ s.hl _) (by decide) (keepsMemoryBut_writeByte _ s.hl _)

/-- Settles O28: the byte goes to A before the base modification, which writes neither A nor memory. -/
theorem accumulatorLoadsReadTheAddress : Obligations.AccumulatorLoadsReadTheAddress := by
  intro m s
  refine ⟨encode_mkLoadA m, _, (exec_mkLoadA m s).trans (loadAccumulator_eq m s), ?_, ?_, ?_⟩
  · exact (State.postModify_reg_a _ m).trans (State.setReg_reg_same _ .a _)
  · exact (State.postModify_hl _ m).trans (hlAfter_congr m (State.fetched_hl _ s))
  · obtain ⟨k, hk⟩ := modeLength_eq_succ m
    rw [length_loadABytes, modeCycles_eq_modeCost, hk]
    exact frame_of_register_write ((keepsAllBut_setReg _ .a _).trans (keepsAllBut_postModify _ m))
      (regA_modeParts_plain m) (State.postModify_readByte _ m)

/-- Settles O29: the write is at the effective address, and the base modification after it leaves memory alone. -/
theorem accumulatorStoresWriteTheAddress : Obligations.AccumulatorStoresWriteTheAddress := by
  intro m s
  refine ⟨encode_mkStoreA m, _, (exec_mkStoreA m s).trans (storeAccumulator_eq m s), ?_, ?_, ?_⟩
  · exact (State.postModify_readByte _ m _).trans (State.readByte_writeByte_same _ _ _)
  · exact (State.postModify_hl _ m).trans (hlAfter_congr m (State.fetched_hl _ s))
  · obtain ⟨k, hk⟩ := modeLength_eq_succ m
    rw [length_storeABytes, modeCycles_eq_modeCost, hk]
    exact frame_of_memory_write ((keepsAllBut_writeByte _ _ _).trans (keepsAllBut_postModify _ m)) (modeParts_plain m)
      fun a other => (State.postModify_readByte _ m a).trans (keepsMemoryBut_writeByte _ _ _ a other)

/-- Settles O30: a word write is its two bytes, and the fetches leave SP. -/
theorem storeSpWritesTwoBytes : Obligations.StoreSpWritesTwoBytes := fun a16 s =>
  ⟨congrArg (0x08#8 :: ·) (wordBytes_eq a16).symm, _, storeSp_eq a16 s,
    (State.readByte_writeWord_low _ a16 s.sp).trans (loByte_eq_byte s.sp),
    (State.readByte_writeWord_high _ a16 s.sp).trans (hiByte_eq_byte s.sp),
    frame_of_memory_write (keepsAllBut_writeWord _ a16 s.sp) (by decide) (keepsMemoryBut_writeWord _ a16 s.sp)⟩

/-- Settles O23: NOP is its fetch and its cycles. -/
theorem nopOnlyAdvances : Obligations.NopOnlyAdvances := fun s =>
  ⟨rfl, _, rfl, frame_of_register_write (KeepsAllBut.refl [] _) (by decide) (KeepsMemory.refl _)⟩

end Sys2Proof.Machine
end

section
/-! SUPPORT. The flag helpers and the arithmetic executors as numbers, what an instruction that writes the flags last
leaves of the state, and the encodings of the arithmetic family. -/

namespace Sys2Proof.Machine

open Sys2Proof.Claims

/-! ## The flag helpers (R81 to R87) as numbers -/

theorem zeroFlag_eq (res : Byte) : zeroFlag res = decide (res = 0x00#8) := rfl

theorem toNat_and_lowNibble (x : Byte) : (x &&& 0x0F#8).toNat = x.toNat % 16 := by
  rw [BitVec.toNat_and]
  exact Nat.and_two_pow_sub_one_eq_mod x.toNat 4

theorem toNat_and_lowTwelve (x : Word16) : (x &&& 0x0FFF#16).toNat = x.toNat % 4096 := by
  rw [BitVec.toNat_and]
  exact Nat.and_two_pow_sub_one_eq_mod x.toNat 12

theorem hAdd_eq (a b : Byte) (c : Bool) : hAdd a b c = decide (a.toNat % 16 + b.toNat % 16 + c.toNat > 15) := by
  simp only [hAdd, toNat_and_lowNibble]

theorem hSub_eq (a b : Byte) (c : Bool) : hSub a b c = decide (a.toNat % 16 < b.toNat % 16 + c.toNat) := by
  simp only [hSub, toNat_and_lowNibble]

theorem hAdd16_eq (a b : Word16) : hAdd16 a b = decide (a.toNat % 4096 + b.toNat % 4096 > 4095) := by
  simp only [hAdd16, toNat_and_lowTwelve]

theorem carryByte_eq (c : Bool) : carryByte c = byte c.toNat := by cases c <;> rfl

theorem byte_eq_zero (n : Nat) : byte n = 0x00#8 ↔ n % 256 = 0 := by
  rw [← BitVec.toNat_inj, byte, BitVec.toNat_ofNat, BitVec.toNat_ofNat]

/-- `sext_16(e8)` (R11) is the signed displacement (R68). -/
theorem sext16_eq (e8 : Byte) : sext16 e8 = BitVec.ofInt 16 e8.toInt := by
  revert e8
  decide

/-! ## The executors (R89 to R100) as numbers -/

theorem adc8_eq (a b : Byte) (c : Bool) :
    adc8 a b c = (byte (a.toNat + b.toNat + c.toNat),
      { z := decide ((a.toNat + b.toNat + c.toNat) % 256 = 0), n := false,
        h := decide (a.toNat % 16 + b.toNat % 16 + c.toNat > 15),
        c := decide (a.toNat + b.toNat + c.toNat > 255) }) := by
  have sum : a + b + carryByte c = byte (a.toNat + b.toNat + c.toNat) := by
    simp only [carryByte_eq, byte, BitVec.ofNat_add, BitVec.ofNat_toNat, BitVec.setWidth_eq]
  simp only [adc8, sum, zeroFlag_eq, byte_eq_zero, hAdd_eq, cAdd]

/-- ADD8 is ADC8 without an incoming carry. -/
theorem add8_eq_adc8 (a b : Byte) : add8 a b = adc8 a b false := by
  simp only [add8, adc8, carryByte_eq, Bool.toNat_false, byte, BitVec.add_zero]

theorem sbc8_eq (a b : Byte) (c : Bool) :
    sbc8 a b c = (a - b - byte c.toNat,
      { z := decide (a - b - byte c.toNat = 0x00#8), n := true,
        h := decide (a.toNat % 16 < b.toNat % 16 + c.toNat), c := decide (a.toNat < b.toNat + c.toNat) }) := by
  simp only [sbc8, carryByte_eq, zeroFlag_eq, hSub_eq, cSub]

/-- SUB8 is SBC8 without an incoming carry. -/
theorem sub8_eq_sbc8 (a b : Byte) : sub8 a b = sbc8 a b false := by
  simp only [sub8, sbc8, carryByte_eq, Bool.toNat_false, byte, BitVec.sub_zero]

theorem inc8_eq (x : Byte) (old : Flags) :
    inc8 x old = (byte (x.toNat + 1),
      { z := decide (x = 0xFF#8), n := false, h := decide (x.toNat % 16 = 15), c := old.c }) := by
  have sum : byte (x.toNat + 1) = x + 1#8 := by
    simp only [byte, BitVec.ofNat_add, BitVec.ofNat_toNat, BitVec.setWidth_eq]
  have zero : x + 1#8 = 0x00#8 ↔ x = 0xFF#8 := by bv_omega
  have half : x.toNat % 16 + (0x01#8).toNat % 16 + false.toNat > 15 ↔ x.toNat % 16 = 15 := by
    simp only [BitVec.toNat_ofNat, Bool.toNat_false]
    omega
  simp only [inc8, zeroFlag_eq, zero, hAdd_eq, half, sum]

theorem dec8_eq (x : Byte) (old : Flags) :
    dec8 x old = (x - 1#8,
      { z := decide (x = 0x01#8), n := true, h := decide (x.toNat % 16 = 0), c := old.c }) := by
  have zero : x - 1#8 = 0x00#8 ↔ x = 0x01#8 := by bv_omega
  have half : x.toNat % 16 < (0x01#8).toNat % 16 + false.toNat ↔ x.toNat % 16 = 0 := by
    simp only [BitVec.toNat_ofNat, Bool.toNat_false]
    omega
  simp only [dec8, zeroFlag_eq, zero, hSub_eq, half]

theorem add16_eq (a b : Word16) (old : Flags) :
    add16 a b old = (a + b,
      { z := old.z, n := false, h := decide (a.toNat % 4096 + b.toNat % 4096 > 4095),
        c := decide (a.toNat + b.toNat > 65535) }) := by
  rw [add16, hAdd16_eq, cAdd16]

theorem addSp_eq (sp : Word16) (e8 : Byte) :
    addSp sp e8 = (displaced sp e8,
      { z := false, n := false, h := decide (sp.toNat % 16 + e8.toNat % 16 > 15),
        c := decide (sp.toNat % 256 + e8.toNat > 255) }) := by
  have nibble : sp.toNat % 256 % 16 = sp.toNat % 16 := Nat.mod_mod_of_dvd _ (by decide)
  simp only [addSp, displaced, sext16_eq, hAdd_eq, cAdd, loByte_toNat, nibble, Bool.toNat_false, Nat.add_zero]

theorem add_one_eq_ofNat (x : Word16) : x + 1#16 = BitVec.ofNat 16 (x.toNat + 1) := by
  rw [BitVec.ofNat_add, BitVec.ofNat_toNat, BitVec.setWidth_eq]

theorem sub_one_eq_ofNat (x : Word16) : x - 1#16 = BitVec.ofNat 16 (x.toNat + 65535) := by
  rw [BitVec.ofNat_add, BitVec.ofNat_toNat, BitVec.setWidth_eq]
  exact BitVec.sub_eq_add_neg x 1#16

/-! ## An instruction that writes the flags last

Its frame is that of what it writes before them, with the flags register added. -/

theorem flagsAre_of_setFlags (u : State) (x : Flags) (cost : Nat) : FlagsAre x ((u.setFlags x).addCycles cost) :=
  ⟨u.setFlags_flags x, by rw [State.addCycles_f, State.setFlags_f, Flags.toByte_low]⟩

theorem append_flagParts_plain {ps : List Part} (plain : ∀ p ∈ stepParts, p ∉ ps) :
    ∀ p ∈ stepParts, p ∉ ps ++ flagParts := fun p hp =>
  List.not_mem_append (plain p hp) ((by decide : ∀ p ∈ stepParts, p ∉ flagParts) p hp)

/-- The frame of an instruction that writes registers and then the flags. -/
theorem frame_of_register_and_flags_write {n cost : Nat} {ps : List Part} {s u : State} (x : Flags)
    (kept : KeepsAllBut ps (s.fetched (n + 1)) u) (plain : ∀ p ∈ stepParts, p ∉ ps)
    (memory : KeepsMemory (s.fetched (n + 1)) u) :
    FlagsAre x ((u.setFlags x).addCycles cost) ∧
      Advanced (n + 1) cost s ((u.setFlags x).addCycles cost) ∧
      KeepsAllBut (ps ++ flagParts ++ stepParts) s ((u.setFlags x).addCycles cost) ∧
      KeepsMemory s ((u.setFlags x).addCycles cost) :=
  ⟨flagsAre_of_setFlags u x cost,
    frame_of_register_write (kept.trans (keepsAllBut_setFlags u x)) (append_flagParts_plain plain) memory⟩

theorem operandValue_eq_operand (o : Operand8) (s : State) : operandValue o s = s.operand o := by
  cases o <;> rfl

theorem operandParts_plain (o : Operand8) : ∀ p ∈ stepParts, p ∉ operandParts o := by
  cases o with
  | reg r => exact regPart_plain r
  | atHl => decide

theorem State.fetched_operandAddrs (n : Nat) (s : State) (o : Operand8) :
    operandAddrs o (s.fetched n) = operandAddrs o s := by
  cases o with
  | reg r => rfl
  | atHl => exact congrArg (fun a => [a]) (State.fetched_hl n s)

/-- An instruction that writes its operand r and then the flags: the result is in the operand, and nothing but the
operand and the flags is written. -/
theorem operand_and_flags_write (n cost : Nat) (s : State) (o : Operand8) (v : Byte) (x : Flags) :
    let t := (((s.fetched (n + 1)).setOperand o v).setFlags x).addCycles cost
    operandValue o t = v ∧ FlagsAre x t ∧ Advanced (n + 1) cost s t ∧
      KeepsAllBut (operandParts o ++ flagParts ++ stepParts) s t ∧ KeepsMemoryBut (operandAddrs o s) s t := by
  have value : operandValue o ((((s.fetched (n + 1)).setOperand o v).setFlags x).addCycles cost) = v := by
    cases o with
    | reg r => exact (State.setFlags_reg _ x r).trans (State.setReg_reg_same _ r v)
    | atHl => exact State.readByte_writeByte_same _ _ v
  have kept := (keepsAllBut_setOperand (s.fetched (n + 1)) o v).trans (keepsAllBut_setFlags _ x)
  have memory := keepsMemoryBut_setOperand (s.fetched (n + 1)) o v
  rw [State.fetched_operandAddrs] at memory
  exact ⟨value, flagsAre_of_setFlags _ x cost,
    frame_of_memory_write kept (append_flagParts_plain (operandParts_plain o)) memory⟩

/-! ## The arithmetic instructions by the state before their fetches -/

theorem sourceValue_eq_source (src : Source) (s : State) : sourceValue src s = s.source src := by
  cases src <;> rfl

theorem aluCycles_eq_sourceCost (src : Source) : aluCycles src = sourceCost src := by
  cases src <;> rfl

theorem aluLength_eq_sourceLength (src : Source) : aluLength src = sourceLength src := by
  cases src <;> rfl

theorem aluLength_eq_succ (src : Source) : ∃ k : Nat, aluLength src = k + 1 := by
  cases src <;> exact ⟨_, rfl⟩

/-- What every 8-bit ALU instruction does with its executor's result and flags. -/
theorem exec_mkAlu_writes {op : AluOp} {src : Source} {s : State} {res : Byte} {x : Flags}
    (out : alu8 op (s.reg .a) (sourceValue src s) s.flags.c = (res, x)) :
    ∃ t : State, exec (Instr.mkAlu op src) s = .next t ∧ t.reg .a = res ∧ FlagsAre x t ∧
      Advanced (aluLength src) (aluCycles src) s t ∧
      KeepsAllBut (.regA :: flagParts ++ stepParts) s t ∧ KeepsMemory s t := by
  have run : exec (Instr.mkAlu op src) s =
      finish (aluCycles src) (((s.fetched (aluLength src)).setReg .a res).setFlags x) := by
    rw [sourceValue_eq_source] at out
    simp only [exec_mkAlu, accumulate, State.fetched_reg, State.fetched_source, State.fetched_flags, out,
      aluCycles_eq_sourceCost, aluLength_eq_sourceLength]
  obtain ⟨k, hk⟩ := aluLength_eq_succ src
  rw [hk] at run ⊢
  exact ⟨_, run, (State.setFlags_reg _ x .a).trans (State.setReg_reg_same _ .a res),
    frame_of_register_and_flags_write x (keepsAllBut_setReg _ .a res) (regPart_plain .a)
      (State.setReg_readByte _ .a res)⟩

theorem incDecCost_eq_operandCycles (o : Operand8) : incDecCost o = operandCycles o 4 12 := by
  cases o <;> rfl

theorem incOperand_eq {o : Operand8} {s : State} {res : Byte} {x : Flags}
    (out : inc8 (operandValue o s) s.flags = (res, x)) :
    incOperand o s = finish (operandCycles o 4 12) (((s.fetched 1).setOperand o res).setFlags x) := by
  rw [operandValue_eq_operand] at out
  simp only [incOperand, State.fetched_operand, State.fetched_flags, out, incDecCost_eq_operandCycles]

theorem decOperand_eq {o : Operand8} {s : State} {res : Byte} {x : Flags}
    (out : dec8 (operandValue o s) s.flags = (res, x)) :
    decOperand o s = finish (operandCycles o 4 12) (((s.fetched 1).setOperand o res).setFlags x) := by
  rw [operandValue_eq_operand] at out
  simp only [decOperand, State.fetched_operand, State.fetched_flags, out, incDecCost_eq_operandCycles]

theorem addHl_eq {p : Pair} {s : State} {res : Word16} {x : Flags} (out : add16 s.hl (s.pair p) s.flags = (res, x)) :
    addHl p s = finish 8 (({ s.fetched 1 with hl := res } : State).setFlags x) := by
  simp only [addHl, State.fetched_hl, State.fetched_pair, State.fetched_flags, out]

theorem incPair_eq (p : Pair) (s : State) :
    incPair p s = finish 8 ((s.fetched 1).setPair p (BitVec.ofNat 16 ((s.pair p).toNat + 1))) := by
  rw [incPair, State.fetched_pair, add_one_eq_ofNat]

theorem decPair_eq (p : Pair) (s : State) :
    decPair p s = finish 8 ((s.fetched 1).setPair p (BitVec.ofNat 16 ((s.pair p).toNat + 65535))) := by
  rw [decPair, State.fetched_pair, sub_one_eq_ofNat]

theorem addSpImm_eq {e8 : Byte} {s : State} {res : Word16} {x : Flags} (out : addSp s.sp e8 = (res, x)) :
    addSpImm e8 s = finish 16 (({ s.fetched 2 with sp := res } : State).setFlags x) := by
  simp only [addSpImm, State.fetched_sp, out]

theorem loadHlSpImm_eq {e8 : Byte} {s : State} {res : Word16} {x : Flags} (out : addSp s.sp e8 = (res, x)) :
    loadHlSpImm e8 s = finish 12 (({ s.fetched 2 with hl := res } : State).setFlags x) := by
  simp only [loadHlSpImm, State.fetched_sp, out]

/-! ## Encodings -/

/-- The field alu (R66) selects the instruction. -/
theorem encode_mkAlu (y : BitVec 3) (src : Source) : (Instr.mkAlu (aluField y) src).encode = aluBytes y.toNat src := by
  cases src with
  | reg r => cases y using code_cases <;> cases r <;> rfl
  | atHl => cases y using code_cases <;> rfl
  | imm n8 => cases y using code_cases <;> rfl

theorem encode_mkInc (o : Operand8) : (Instr.mkInc o).encode = [byte (0x04 + 8 * operandCode o)] := by
  cases o with
  | reg r => cases r <;> rfl
  | atHl => rfl

theorem encode_mkDec (o : Operand8) : (Instr.mkDec o).encode = [byte (0x05 + 8 * operandCode o)] := by
  cases o with
  | reg r => cases r <;> rfl
  | atHl => rfl

theorem encode_mkAddHl (p : Pair) : (Instr.mkAddHl p).encode = [byte (0x09 + 16 * pairCode p)] := by
  cases p <;> rfl

theorem encode_mkIncPair (p : Pair) : (Instr.mkIncPair p).encode = [byte (0x03 + 16 * pairCode p)] := by
  cases p <;> rfl

theorem encode_mkDecPair (p : Pair) : (Instr.mkDecPair p).encode = [byte (0x0B + 16 * pairCode p)] := by
  cases p <;> rfl

end Sys2Proof.Machine
end

section
/-! PROOFS. The statements about the arithmetic and logic instructions. -/

namespace Sys2Proof.Machine

open Sys2Proof.Claims

/-- Settles O31: ADC's executor gives the sums, and ADD's is ADC's without an incoming carry. -/
theorem addAndAdcAddWithFlags : Obligations.AddAndAdcAddWithFlags := by
  intro withCarry src s
  cases withCarry with
  | false => exact ⟨encode_mkAlu 0#3 src, exec_mkAlu_writes ((add8_eq_adc8 _ _).trans (adc8_eq _ _ _))⟩
  | true => exact ⟨encode_mkAlu 1#3 src, exec_mkAlu_writes (adc8_eq _ _ _)⟩

/-- Settles O32: SBC's executor gives the differences; SUB's is SBC's without an incoming carry, and CP keeps A beside
SUB's flags. -/
theorem subSbcAndCpSubtractWithFlags : Obligations.SubSbcAndCpSubtractWithFlags := by
  intro op alu src s row
  have difference := (sub8_eq_sbc8 (s.reg .a) (sourceValue src s)).trans (sbc8_eq _ _ _)
  simp only [List.mem_cons, Prod.mk.injEq, List.not_mem_nil, or_false] at row
  obtain ⟨rfl, rfl⟩ | ⟨rfl, rfl⟩ | ⟨rfl, rfl⟩ := row
  · exact ⟨encode_mkAlu 2#3 src, exec_mkAlu_writes difference⟩
  · exact ⟨encode_mkAlu 3#3 src, exec_mkAlu_writes (sbc8_eq _ _ _)⟩
  · exact ⟨encode_mkAlu 7#3 src, exec_mkAlu_writes (congrArg (fun out => (s.reg .a, out.2)) difference)⟩

/-- Settles O33: each of the three executors gives its result and flags as they are. -/
theorem logicOperationsWriteTheirFlags : Obligations.LogicOperationsWriteTheirFlags := by
  intro op alu src s row
  simp only [List.mem_cons, Prod.mk.injEq, List.not_mem_nil, or_false] at row
  obtain ⟨rfl, rfl⟩ | ⟨rfl, rfl⟩ | ⟨rfl, rfl⟩ := row
  · exact ⟨encode_mkAlu 4#3 src, exec_mkAlu_writes rfl⟩
  · exact ⟨encode_mkAlu 5#3 src, exec_mkAlu_writes rfl⟩
  · exact ⟨encode_mkAlu 6#3 src, exec_mkAlu_writes rfl⟩

/-- Settles O34: the operand is read and written after the fetch, and the carry is passed through. -/
theorem incAndDecKeepCarry : Obligations.IncAndDecKeepCarry := fun o s =>
  ⟨encode_mkInc o, encode_mkDec o,
    ⟨_, (exec_mkInc o s).trans (incOperand_eq (inc8_eq _ _)), operand_and_flags_write 0 _ s o _ _⟩,
    ⟨_, (exec_mkDec o s).trans (decOperand_eq (dec8_eq _ _)), operand_and_flags_write 0 _ s o _ _⟩⟩

/-- Settles O35: the sum goes to HL, and the zero flag of before the instruction is among those written. -/
theorem addHlKeepsZero : Obligations.AddHlKeepsZero := fun p s =>
  ⟨encode_mkAddHl p, _, (exec_mkAddHl p s).trans (addHl_eq (add16_eq _ _ _)), rfl,
    frame_of_register_and_flags_write _ (keepsAllBut_hl _ _) (by decide) fun _ => rfl⟩

/-- Settles O36: each writes its 16-bit register after the fetch, and nothing else. -/
theorem pairIncAndDecWriteNoFlag : Obligations.PairIncAndDecWriteNoFlag := by
  have frame (p : Pair) (s : State) (v : Word16) :=
    frame_of_register_write (cost := 8) (keepsAllBut_setPair (s.fetched 1) p v) (pairParts_plain p)
      (State.setPair_readByte _ p v)
  exact fun p s => ⟨encode_mkIncPair p, encode_mkDecPair p,
    ⟨_, (exec_mkIncPair p s).trans (incPair_eq p s), State.setPair_pair_same _ p _, frame p s _⟩,
    ⟨_, (exec_mkDecPair p s).trans (decPair_eq p s), State.setPair_pair_same _ p _, frame p s _⟩⟩

/-- Settles O37: both write the displaced SP and the flags of the low byte's unsigned sum, one to SP and one to HL. -/
theorem spDisplacementFlagsAreLowByte : Obligations.SpDisplacementFlagsAreLowByte := fun e8 s =>
  ⟨rfl, rfl,
    ⟨_, addSpImm_eq (addSp_eq s.sp e8), rfl,
      frame_of_register_and_flags_write _ (keepsAllBut_sp _ _) (by decide) fun _ => rfl⟩,
    ⟨_, loadHlSpImm_eq (addSp_eq s.sp e8), rfl,
      frame_of_register_and_flags_write _ (keepsAllBut_hl _ _) (by decide) fun _ => rfl⟩⟩

end Sys2Proof.Machine
end

section
/-! SUPPORT. What a push and a pop do around an instruction's fetches (R170), what a control transfer leaves of the state,
the conditional transfers by the spec's condition (R173), and the encodings of the stack and control family. -/

namespace Sys2Proof.Machine

open Sys2Proof.Claims

/-! ## Frames -/

theorem keepsAllBut_ime (s : State) (b : Bool) : KeepsAllBut [.ime] s { s with ime := b } := by
  intro p hp
  cases p with
  | ime => exact absurd (List.mem_singleton_self _) hp
  | _ => rfl

theorem KeepsMemoryBut.trans_keepsMemory {addrs : List Word16} {s t u : State} (h : KeepsMemoryBut addrs s t)
    (h' : KeepsMemory t u) : KeepsMemoryBut addrs s u := fun a ha => (h' a).trans (h a ha)

/-- The frame of two instructions that use the stack, SP being back after them. -/
theorem frame_of_sp_restored {ps : List Part} {s t u : State} (kept : KeepsAllBut (.sp :: stepParts) s t)
    (kept' : KeepsAllBut (.sp :: ps ++ stepParts) t u) (sp : u.sp = s.sp) : KeepsAllBut (ps ++ stepParts) s u := by
  intro p hp
  by_cases isSp : p = .sp
  · exact isSp ▸ sp
  · have notStep : p ∉ stepParts := fun h => hp (List.mem_append_right ps h)
    exact (kept p (List.not_mem_cons_of_ne_of_not_mem isSp notStep)).trans
      (kept' p (List.not_mem_cons_of_ne_of_not_mem isSp hp))

/-! ## A push and a pop after the fetches -/

/-- Where a push after the fetches puts SP and the two bytes of its word. -/
theorem push16_fetched_stores (n : Nat) (s : State) (v : Word16) :
    ((s.fetched n).push16 v).sp = s.sp - 2#16 ∧
    ((s.fetched n).push16 v).readByte (s.sp - 1#16) = byte (v.toNat / 256) ∧
    ((s.fetched n).push16 v).readByte (s.sp - 2#16) = byte (v.toNat % 256) := by
  have distinct : s.sp - 2#16 ≠ s.sp - 1#16 := by bv_omega
  refine ⟨by simp, ?_, ?_⟩
  · rw [State.readByte_push16, State.fetched_sp, if_neg distinct, if_pos rfl, hiByte_eq_byte]
  · rw [State.readByte_push16, State.fetched_sp, if_pos rfl, loByte_eq_byte]

theorem keepsMemoryBut_push16_fetched (n : Nat) (s : State) (v : Word16) :
    KeepsMemoryBut [s.sp - 1#16, s.sp - 2#16] (s.fetched n) ((s.fetched n).push16 v) := by
  intro a ha
  obtain ⟨high, low⟩ : a ≠ s.sp - 1#16 ∧ a ≠ s.sp - 2#16 := by simpa using ha
  rw [State.readByte_push16, State.fetched_sp, if_neg low.symm, if_neg high.symm]

theorem pop16_fetched_value (n : Nat) (s : State) :
    (s.fetched n).pop16.1 = word (s.readByte (s.sp + 1#16)) (s.readByte s.sp) := by
  simp [word_eq_joinBytes]

theorem pop16_fetched_sp (n : Nat) (s : State) : (s.fetched n).pop16.2.sp = s.sp + 2#16 := by
  simp

/-- The word at SP after a push is the pushed word, and SP + 2 is SP from before it. -/
theorem top_of_stack_after_push {v : Word16} {s t : State} (sp : t.sp = s.sp - 2#16)
    (high : t.readByte (s.sp - 1#16) = byte (v.toNat / 256)) (low : t.readByte (s.sp - 2#16) = byte (v.toNat % 256)) :
    word (t.readByte (t.sp + 1#16)) (t.readByte t.sp) = v ∧ t.sp + 2#16 = s.sp := by
  have next : s.sp - 2#16 + 1#16 = s.sp - 1#16 := by bv_omega
  rw [sp, next, high, low, ← hiByte_eq_byte, ← loByte_eq_byte, word_hiByte_loByte]
  exact ⟨rfl, BitVec.sub_add_cancel s.sp 2#16⟩

/-! ## Pairs on the stack -/

theorem sp_stackPairParts_plain (q : StackPair) : ∀ p ∈ stepParts, p ∉ .sp :: stackPairParts q := by
  cases q <;> decide

/-- A write of AF writes F as a write of F itself does (R21). -/
theorem State.setStackPair_af_flags (s : State) (v : Word16) :
    (s.setStackPair .af v).flags =
      { z := (loByte v).getLsbD 7, n := (loByte v).getLsbD 6, h := (loByte v).getLsbD 5, c := (loByte v).getLsbD 4 } := by
  have sameF : (s.setStackPair .af v).f = (s.setF (loByte v)).f := (loByte_and v 0xFFF0#16).trans (s.setF_f _).symm
  rw [← s.setF_flags (loByte v), State.flags, State.flags, sameF]

/-- The mask of a write of AF leaves a pair that meets the invariant as it was (R21). -/
theorem State.Inv.af_masked {s : State} (h : s.Inv) : s.af &&& 0xFFF0#16 = s.af := by
  have highNibble (x : Byte) : x &&& 0x0F#8 = 0x00#8 → x &&& 0xF0#8 = x := by
    revert x
    decide
  apply word_ext
  · exact (hiByte_and s.af 0xFFF0#16).trans BitVec.and_allOnes
  · exact (loByte_and s.af 0xFFF0#16).trans (highNibble _ h.lowNibble)

theorem pushPair_eq (q : StackPair) (s : State) :
    pushPair q s = finish 16 ((s.fetched 1).push16 (s.stackPair q)) := by
  rw [pushPair, State.fetched_stackPair]

/-! ## A control transfer

It writes PC last, so its frame is the frame of what it does before that. -/

theorem transferred_of_kept {n cost : Nat} {ps : List Part} {s u : State} (target : Word16)
    (kept : KeepsAllBut ps (s.fetched (n + 1)) u) (plain : ∀ p ∈ stepParts, p ∉ ps) :
    Transferred target cost s (({ u with pc := target } : State).addCycles cost) ∧
      KeepsAllBut (ps ++ stepParts) s (({ u with pc := target } : State).addCycles cost) := by
  obtain ⟨-, haltBug, cycles⟩ := advanced_of_kept (cost := cost) kept plain
  refine ⟨⟨rfl, haltBug, cycles⟩, ?_⟩
  refine ((keepsAllBut_addCycles_of_kept (cost := cost) kept).trans (keepsAllBut_pc _ target)).mono fun p hp => ?_
  simp only [List.mem_append, List.mem_singleton] at hp ⊢
  rcases hp with kept | rfl
  · exact kept
  · exact .inr (by decide)

/-- A conditional that is not taken has made its fetches and nothing else (R173). -/
theorem not_taken (n cost : Nat) (s : State) :
    Advanced (n + 1) cost s ((s.fetched (n + 1)).addCycles cost) ∧
      KeepsAllBut stepParts s ((s.fetched (n + 1)).addCycles cost) ∧
      KeepsMemory s ((s.fetched (n + 1)).addCycles cost) :=
  frame_of_register_write (KeepsAllBut.refl [] _) (by decide) (KeepsMemory.refl _)

/-- A jump: only PC is written after the fetches. -/
theorem jump_transfers (n cost : Nat) (target : Word16) (s : State) :
    let t := ({ s.fetched (n + 1) with pc := target } : State).addCycles cost
    Transferred target cost s t ∧ KeepsAllBut stepParts s t ∧ KeepsMemory s t := by
  obtain ⟨transferred, kept⟩ := transferred_of_kept (cost := cost) target (KeepsAllBut.refl [] (s.fetched (n + 1)))
    (by decide)
  exact ⟨transferred, kept, State.fetched_readByte (n + 1) s⟩

/-- A call: the address after the instruction is pushed, then PC is written. -/
theorem call_transfers (n cost : Nat) (target : Word16) (s : State) :
    let t := ({ (s.fetched (n + 1)).push16 (s.fetched (n + 1)).pc with pc := target } : State).addCycles cost
    Transferred target cost s t ∧ t.sp = s.sp - 2#16 ∧
      t.readByte (s.sp - 1#16) = byte ((s.pcAfter (n + 1)).toNat / 256) ∧
      t.readByte (s.sp - 2#16) = byte ((s.pcAfter (n + 1)).toNat % 256) ∧
      KeepsAllBut (.sp :: stepParts) s t ∧ KeepsMemoryBut [s.sp - 1#16, s.sp - 2#16] s t := by
  rw [State.fetched_pc]
  obtain ⟨transferred, kept⟩ := transferred_of_kept (cost := cost) target
    (keepsAllBut_push16 (s.fetched (n + 1)) (s.pcAfter (n + 1))) (by decide)
  obtain ⟨sp, high, low⟩ := push16_fetched_stores (n + 1) s (s.pcAfter (n + 1))
  exact ⟨transferred, sp, high, low, kept, fun a other =>
    (keepsMemoryBut_push16_fetched (n + 1) s _ a other).trans (State.fetched_readByte (n + 1) s a)⟩

/-- A return: PC is the popped word. -/
theorem return_transfers (n cost : Nat) (s : State) :
    let popped := (s.fetched (n + 1)).pop16
    let t := ({ popped.2 with pc := popped.1 } : State).addCycles cost
    Transferred (word (s.readByte (s.sp + 1#16)) (s.readByte s.sp)) cost s t ∧ t.sp = s.sp + 2#16 ∧
      KeepsAllBut (.sp :: stepParts) s t ∧ KeepsMemory s t := by
  dsimp only
  rw [pop16_fetched_value]
  obtain ⟨transferred, kept⟩ := transferred_of_kept (cost := cost)
    (word (s.readByte (s.sp + 1#16)) (s.readByte s.sp)) (keepsAllBut_pop16 (s.fetched (n + 1))) (by decide)
  exact ⟨transferred, pop16_fetched_sp (n + 1) s, kept, State.fetched_readByte (n + 1) s⟩

/-- RETI (R183) is a return that writes IME as well. -/
theorem reti_transfers (s : State) :
    let t := (s.fetched 1).returnFromInterrupt.addCycles 16
    Transferred (word (s.readByte (s.sp + 1#16)) (s.readByte s.sp)) 16 s t ∧ t.sp = s.sp + 2#16 ∧ t.ime = true ∧
      KeepsAllBut (.ime :: .sp :: stepParts) s t ∧ KeepsMemory s t := by
  obtain ⟨⟨pc, haltBug, cycles⟩, sp, kept, memory⟩ := return_transfers 0 16 s
  exact ⟨⟨pc, haltBug, cycles⟩, sp, rfl, (kept.trans (keepsAllBut_ime _ true)).mono (by decide), memory⟩

/-! ## The jumps by the state before their fetches -/

theorem jumpHl_eq (s : State) : jumpHl s = finish 4 { s.fetched 1 with pc := s.hl } :=
  congrArg (fun v => finish 4 { s.fetched 1 with pc := v }) (State.fetched_hl 1 s)

theorem jumpRel_eq (e8 : Byte) (s : State) :
    jumpRel e8 s = finish 12 { s.fetched 2 with pc := displaced (s.pcAfter 2) e8 } := by
  rw [jumpRel, State.fetched_pc, sext16_eq, displaced]

/-! ## The conditional transfers by the spec's condition -/

theorem jumpIf_eq (cc : Cond) (a16 : Word16) (s : State) :
    jumpIf cc a16 s =
      if holds cc s.flags then finish 16 { s.fetched 3 with pc := a16 } else finish 12 (s.fetched 3) := by
  rw [jumpIf, State.fetched_cond, State.cond_eq_holds]

theorem jumpRelIf_eq (cc : Cond) (e8 : Byte) (s : State) :
    jumpRelIf cc e8 s =
      if holds cc s.flags then finish 12 { s.fetched 2 with pc := displaced (s.pcAfter 2) e8 }
      else finish 8 (s.fetched 2) := by
  rw [jumpRelIf, State.fetched_cond, State.cond_eq_holds, State.fetched_pc, sext16_eq, displaced]

theorem callIf_eq (cc : Cond) (a16 : Word16) (s : State) :
    callIf cc a16 s =
      if holds cc s.flags then finish 24 { (s.fetched 3).push16 (s.fetched 3).pc with pc := a16 }
      else finish 12 (s.fetched 3) := by
  rw [callIf, State.fetched_cond, State.cond_eq_holds]

theorem retIf_eq (cc : Cond) (s : State) :
    retIf cc s =
      if holds cc s.flags then finish 20 { (s.fetched 1).pop16.2 with pc := (s.fetched 1).pop16.1 }
      else finish 8 (s.fetched 1) := by
  rw [retIf, State.fetched_cond, State.cond_eq_holds]

/-- The target of RST (R184) as a number. -/
theorem restart_target (y : BitVec 3) : (y.setWidth 8 <<< 3).setWidth 16 = BitVec.ofNat 16 (8 * y.toNat) := by
  cases y using code_cases <;> rfl

theorem restart_eq (y : BitVec 3) (s : State) :
    restart (y.setWidth 8 <<< 3) s =
      finish 16 { (s.fetched 1).push16 (s.fetched 1).pc with pc := BitVec.ofNat 16 (8 * y.toNat) } := by
  rw [restart, restart_target]

/-! ## Encodings -/

theorem encode_mkPush (q : StackPair) : (Instr.mkPush q).encode = [byte (0xC5 + 16 * stackPairCode q)] := by
  cases q <;> rfl

theorem encode_mkPop (q : StackPair) : (Instr.mkPop q).encode = [byte (0xC1 + 16 * stackPairCode q)] := by
  cases q <;> rfl

theorem encode_mkJump (cc : Cond) (a16 : Word16) :
    (Instr.mkJump cc a16).encode = byte (0xC2 + 8 * condCode cc) :: wordBytes a16 := by
  rw [wordBytes_eq]
  cases cc <;> rfl

theorem encode_mkJumpRel (cc : Cond) (e8 : Byte) :
    (Instr.mkJumpRel cc e8).encode = [byte (0x20 + 8 * condCode cc), e8] := by
  cases cc <;> rfl

theorem encode_mkCall (cc : Cond) (a16 : Word16) :
    (Instr.mkCall cc a16).encode = byte (0xC4 + 8 * condCode cc) :: wordBytes a16 := by
  rw [wordBytes_eq]
  cases cc <;> rfl

theorem encode_mkRet (cc : Cond) : (Instr.mkRet cc).encode = [byte (0xC0 + 8 * condCode cc)] := by
  cases cc <;> rfl

theorem encode_mkRst (y : BitVec 3) : (Instr.mkRst y).encode = [byte (0xC7 + 8 * y.toNat)] := by
  cases y using code_cases <;> rfl

end Sys2Proof.Machine
end

section
/-! PROOFS. The statements about the stack and control transfer. -/

namespace Sys2Proof.Machine

open Sys2Proof.Claims

/-- Settles O38: the fetch leaves SP and the pair, and the low byte of AF is F. -/
theorem pushStoresThePair : Obligations.PushStoresThePair := by
  intro q s
  obtain ⟨sp, high, low⟩ := push16_fetched_stores 1 s (s.stackPair q)
  refine ⟨encode_mkPush q, _, (exec_mkPush q s).trans (pushPair_eq q s), sp, high, low, ?_,
    frame_of_memory_write (keepsAllBut_push16 _ _) (by decide) (keepsMemoryBut_push16_fetched 1 s _)⟩
  rintro rfl inv
  have pushedF : byte ((s.stackPair .af).toNat % 256) = s.f := (loByte_eq_byte s.af).symm
  exact (congrArg (fun x : Byte => x.toNat % 16) (low.trans pushedF)).trans inv.f_mod

/-- Settles O39: the popped word is written to the pair after SP has moved, AF's write masking F. -/
theorem popLoadsThePair : Obligations.PopLoadsThePair := by
  intro q s
  refine ⟨encode_mkPop q, _, exec_mkPop q s, (State.setStackPair_sp _ q _).trans (pop16_fetched_sp 1 s), ?_, ?_,
    frame_of_register_write ((keepsAllBut_pop16 _).trans (keepsAllBut_setStackPair _ q _)) (sp_stackPairParts_plain q)
      (State.setStackPair_readByte _ q _)⟩
  · rw [← pop16_fetched_value 1 s]
    exact State.setStackPair_stackPair_same _ q _
  · rintro rfl
    have low : loByte (s.fetched 1).pop16.1 = s.readByte s.sp := by simp
    rw [← low]
    exact State.setStackPair_af_flags (s.fetched 1).pop16.2 (s.fetched 1).pop16.1

/-- Settles O40: PC is the target when the condition holds, and past the instruction otherwise. -/
theorem jumpsSetPc : Obligations.JumpsSetPc := by
  refine ⟨fun a16 s => ⟨congrArg (0xC3#8 :: ·) (wordBytes_eq a16).symm, _, rfl, jump_transfers 2 16 a16 s⟩,
    fun s => ⟨rfl, _, jumpHl_eq s, jump_transfers 0 4 s.hl s⟩, fun cc a16 s => ⟨encode_mkJump cc a16, ?_⟩⟩
  rw [exec_mkJump, jumpIf_eq]
  cases holds cc s.flags with
  | true => exact ⟨_, rfl, jump_transfers 2 16 a16 s⟩
  | false => exact ⟨_, rfl, not_taken 2 12 s⟩

/-- Settles O41: the base of the displacement is PC as the fetches leave it. -/
theorem relativeJumpsAddTheDisplacement : Obligations.RelativeJumpsAddTheDisplacement := by
  refine ⟨fun e8 s => ⟨rfl, _, jumpRel_eq e8 s, jump_transfers 1 12 _ s⟩,
    fun cc e8 s => ⟨encode_mkJumpRel cc e8, ?_⟩⟩
  rw [exec_mkJumpRel, jumpRelIf_eq]
  cases holds cc s.flags with
  | true => exact ⟨_, rfl, jump_transfers 1 12 _ s⟩
  | false => exact ⟨_, rfl, not_taken 1 8 s⟩

/-- Settles O42: what is pushed is PC as the fetches leave it, and a call that is not taken only fetches. -/
theorem callsPushTheReturnAddress : Obligations.CallsPushTheReturnAddress := by
  refine ⟨fun a16 s => ⟨congrArg (0xCD#8 :: ·) (wordBytes_eq a16).symm, _, rfl, call_transfers 2 24 a16 s⟩,
    fun cc a16 s => ⟨encode_mkCall cc a16, ?_⟩⟩
  rw [exec_mkCall, callIf_eq]
  cases holds cc s.flags with
  | true => exact ⟨_, rfl, call_transfers 2 24 a16 s⟩
  | false => exact ⟨_, rfl, not_taken 2 12 s⟩

/-- Settles O43: RST is a call of the target its field y fixes. -/
theorem restartsPushAndJump : Obligations.RestartsPushAndJump := fun y s =>
  ⟨encode_mkRst y, _, (exec_mkRst y s).trans (restart_eq y s), call_transfers 0 16 _ s⟩

/-- Settles O44: all three pop PC; RETI leaves the mode and the fault, so with its IME a pending interrupt is due. -/
theorem returnsPopPc : Obligations.ReturnsPopPc := by
  refine fun s => ⟨rfl, rfl, ⟨_, rfl, return_transfers 0 16 s⟩, ⟨_, rfl, ?_⟩, fun cc => ⟨encode_mkRet cc, ?_⟩⟩
  · obtain ⟨transferred, sp, ime, kept, memory⟩ := reti_transfers s
    refine ⟨transferred, sp, ime, fun unfaulted running pending => ⟨⟨?_, .inl ?_⟩, ime, pending⟩, kept, memory⟩
    · exact Eq.trans (kept .fault (by decide)) unfaulted
    · exact Eq.trans (kept .mode (by decide)) running
  · rw [exec_mkRet, retIf_eq]
    cases holds cc s.flags with
    | true =>
      obtain ⟨transferred, sp, kept, memory⟩ := return_transfers 0 20 s
      exact ⟨_, rfl, ⟨transferred, sp, kept⟩, memory⟩
    | false =>
      obtain ⟨advanced, kept, memory⟩ := not_taken 0 8 s
      exact ⟨_, rfl, ⟨advanced, kept⟩, memory⟩

/-- Settles O45: what a pop or a return reads is the word that the push before it stored, and SP is back. -/
theorem stackRoundTrips : Obligations.StackRoundTrips := by
  refine ⟨fun q q' s t u inv push pop => ?_, fun a16 s t u call ret => ?_⟩
  · obtain ⟨-, _, ht, sp, high, low, -, -, kept, -⟩ := pushStoresThePair q s
    cases ht.symm.trans push
    obtain ⟨-, _, hu, sp', value, -, -, kept', -⟩ := popLoadsThePair q' t
    cases hu.symm.trans pop
    obtain ⟨top, back⟩ := top_of_stack_after_push sp high low
    rw [top] at value
    rw [back] at sp'
    refine ⟨sp', value, frame_of_sp_restored kept kept' sp', ?_⟩
    rintro rfl
    rw [value]
    split
    · next af => exact af ▸ inv.af_masked
    · rfl
  · obtain ⟨_, ht, -, sp, high, low, kept, memory⟩ := (callsPushTheReturnAddress.1 a16 s).2
    cases ht.symm.trans call
    obtain ⟨-, -, ⟨_, hu, transferred, sp', kept', memory'⟩, -⟩ := returnsPopPc t
    cases hu.symm.trans ret
    obtain ⟨top, back⟩ := top_of_stack_after_push sp high low
    rw [back] at sp'
    exact ⟨transferred.pc.trans top, sp', frame_of_sp_restored (ps := []) kept kept' sp',
      memory.trans_keepsMemory memory'⟩

end Sys2Proof.Machine
end

section
/-! SUPPORT. The rotates and shifts (R101) and the tested, reset and set bit (R269 to R271) as numbers and bits, what an
instruction that writes an operand and no flag leaves of the state, and the encodings of the CB family. -/

namespace Sys2Proof.Machine

open Sys2Proof.Claims

/-! ## The rotates and shifts as numbers -/

theorem getLsbD_top (x : Byte) : x.getLsbD 7 = decide (x.toNat ≥ 128) := BitVec.msb_eq_decide x

theorem getLsbD_bottom (x : Byte) : x.getLsbD 0 = decide (x.toNat % 2 = 1) := Nat.testBit_zero x.toNat

theorem shiftLeft_eq_byte (x : Byte) (k : Nat) : x <<< k = byte (x.toNat * 2 ^ k) :=
  congrArg byte (Nat.shiftLeft_eq x.toNat k)

theorem toNat_shiftRight (x : Byte) (k : Nat) : (x >>> k).toNat = x.toNat / 2 ^ k := by
  rw [BitVec.toNat_ushiftRight, Nat.shiftRight_eq_div_pow]

theorem shiftRight_eq_byte (x : Byte) (k : Nat) : x >>> k = byte (x.toNat / 2 ^ k) := by
  rw [← toNat_shiftRight, byte, BitVec.ofNat_toNat, BitVec.setWidth_eq]

/-- The bits moved in below a shift to the left share none with it, so that their union is their sum. -/
theorem shiftLeft_or_eq_byte (x y : Byte) {k : Nat} (below : y.toNat < 2 ^ k) :
    (x <<< k) ||| y = byte (x.toNat * 2 ^ k + y.toNat) := by
  have disjoint : (x <<< k) &&& y = 0#8 := by
    ext i hi
    rcases Nat.lt_or_ge i k with low | high
    · simp [low]
    · have clear : y.getLsbD i = false :=
        Nat.testBit_lt_two_pow (below.trans_le (Nat.pow_le_pow_right (by decide) high))
      simp [← BitVec.getLsbD_eq_getElem, clear]
  rw [← BitVec.add_eq_or_of_and_eq_zero _ _ disjoint, shiftLeft_eq_byte, byte, byte, BitVec.ofNat_add,
    BitVec.ofNat_toNat, BitVec.setWidth_eq]

theorem carryByte_toNat (c : Bool) : (carryByte c).toNat = c.toNat := by cases c <;> rfl

theorem shiftLeft_or_carry (x : Byte) (c : Bool) : (x <<< 1) ||| carryByte c = byte (2 * x.toNat + c.toNat) := by
  have below : (carryByte c).toNat < 2 ^ 1 := carryByte_toNat c ▸ c.toNat_lt
  rw [shiftLeft_or_eq_byte x _ below, carryByte_toNat, Nat.pow_one, Nat.mul_comm]

theorem shiftRight_or_carry (x : Byte) (c : Bool) :
    (x >>> 1) ||| (carryByte c <<< 7) = byte (x.toNat / 2 + 128 * c.toNat) := by
  have below : (x >>> 1).toNat < 2 ^ 7 := BitVec.toNat_ushiftRight_lt x 1 (by decide)
  rw [BitVec.or_comm, shiftLeft_or_eq_byte _ _ below, carryByte_toNat, toNat_shiftRight, Nat.add_comm, Nat.mul_comm]
  rfl

theorem swapNibbles_eq (x : Byte) :
    ((x &&& 0x0F#8) <<< 4) ||| (x >>> 4) = byte (x.toNat % 16 * 16 + x.toNat / 16) := by
  have below : (x >>> 4).toNat < 2 ^ 4 := BitVec.toNat_ushiftRight_lt x 4 (by decide)
  rw [shiftLeft_or_eq_byte _ _ below, toNat_and_lowNibble, toNat_shiftRight]
  rfl

/-- Bit 7 alone, which SRA keeps (R266). -/
theorem and_topBit (x : Byte) : x &&& 0x80#8 = carryByte (x.getLsbD 7) <<< 7 := by
  refine (BitVec.and_twoPow x 7).trans ?_
  cases x.getLsbD 7 <;> rfl

/-- The executors of R101 are the rotates and shifts of the statements. -/
theorem rotate8_eq_rotated (op : RotOp) (x : Byte) (c : Bool) : rotate8 op x c = rotated op x c := by
  cases op with
  | rlc | rl => simp only [rotate8, rotated, getLsbD_top, shiftLeft_or_carry]
  | rrc | rr => simp only [rotate8, rotated, getLsbD_bottom, shiftRight_or_carry]
  | sla => simp only [rotate8, rotated, getLsbD_top, shiftLeft_eq_byte, Nat.pow_one, Nat.mul_comm]
  | sra => simp only [rotate8, rotated, getLsbD_top, getLsbD_bottom, and_topBit, shiftRight_or_carry]
  | swap => simp only [rotate8, rotated, swapNibbles_eq]
  | srl => simp only [rotate8, rotated, getLsbD_bottom, shiftRight_eq_byte, Nat.pow_one]

/-! ## The tested, reset and set bit -/

theorem bitFlags_eq (x : Byte) (b : BitVec 3) (old : Flags) :
    bitFlags x b old = { z := decide (x.toNat / 2 ^ b.toNat % 2 = 0), n := false, h := true, c := old.c } := by
  have tested : (!x.getLsbD b.toNat) = decide (x.toNat / 2 ^ b.toNat % 2 = 0) := by
    rw [BitVec.getLsbD, Nat.testBit_eq_decide_div_mod_eq, ← decide_not, decide_eq_decide]
    omega
  rw [bitFlags, tested]

/-- The mask of RES and SET is the bit `b` alone. -/
theorem getLsbD_bitMask (b : BitVec 3) (k : Nat) : (1#8 <<< b.toNat).getLsbD k = decide (k = b.toNat) := by
  rw [← BitVec.twoPow_eq, BitVec.getLsbD_twoPow, decide_eq_true b.isLt, Bool.true_and]
  exact decide_eq_decide.mpr eq_comm

theorem getLsbD_resetBit (x : Byte) (b : BitVec 3) (k : Nat) :
    (x &&& ~~~(1#8 <<< b.toNat)).getLsbD k = (x.getLsbD k && decide (k ≠ b.toNat)) := by
  rw [BitVec.getLsbD_and, BitVec.getLsbD_not, getLsbD_bitMask, decide_not]
  rcases Nat.lt_or_ge k 8 with inside | outside
  · rw [decide_eq_true inside, Bool.true_and]
  · rw [BitVec.getLsbD_of_ge x k outside, Bool.false_and, Bool.false_and]

theorem getLsbD_setBit (x : Byte) (b : BitVec 3) (k : Nat) :
    (x ||| (1#8 <<< b.toNat)).getLsbD k = (x.getLsbD k || decide (k = b.toNat)) := by
  rw [BitVec.getLsbD_or, getLsbD_bitMask]

/-! ## An instruction that writes its operand and no flag -/

/-- The result is in the operand, and nothing else is written. -/
theorem operand_write (n cost : Nat) (s : State) (o : Operand8) (v : Byte) :
    let t := ((s.fetched (n + 1)).setOperand o v).addCycles cost
    operandValue o t = v ∧ Advanced (n + 1) cost s t ∧ KeepsAllBut (operandParts o ++ stepParts) s t ∧
      KeepsMemoryBut (operandAddrs o s) s t := by
  have value : operandValue o (((s.fetched (n + 1)).setOperand o v).addCycles cost) = v := by
    cases o with
    | reg r => exact State.setReg_reg_same _ r v
    | atHl => exact State.readByte_writeByte_same _ _ v
  have memory := keepsMemoryBut_setOperand (s.fetched (n + 1)) o v
  rw [State.fetched_operandAddrs] at memory
  exact ⟨value, frame_of_memory_write (keepsAllBut_setOperand _ o v) (operandParts_plain o) memory⟩

/-! ## The CB instructions by the state before their fetches -/

theorem cbCost_eq_operandCycles (o : Operand8) : cbCost o = operandCycles o 8 16 := by
  cases o <;> rfl

theorem bitCost_eq_operandCycles (o : Operand8) : bitCost o = operandCycles o 8 12 := by
  cases o <;> rfl

theorem rotateOperand_eq (op : RotOp) (o : Operand8) (s : State) :
    let out := rotated op (operandValue o s) s.flags.c
    rotateOperand op o s = finish (operandCycles o 8 16) (((s.fetched 2).setOperand o out.1).setFlags
      { z := decide (out.1 = 0x00#8), n := false, h := false, c := out.2 }) := by
  simp only [rotateOperand, rotateFlags, zeroFlag_eq, State.fetched_operand, State.fetched_flags,
    rotate8_eq_rotated, cbCost_eq_operandCycles, operandValue_eq_operand]

theorem testBit_eq (b : BitVec 3) (o : Operand8) (s : State) :
    testBit b o s = finish (operandCycles o 8 12) ((s.fetched 2).setFlags
      { z := decide ((operandValue o s).toNat / 2 ^ b.toNat % 2 = 0), n := false, h := true, c := s.flags.c }) := by
  simp only [testBit, bitFlags_eq, State.fetched_operand, State.fetched_flags, bitCost_eq_operandCycles,
    operandValue_eq_operand]

theorem resetBit_eq (b : BitVec 3) (o : Operand8) (s : State) :
    resetBit b o s = finish (operandCycles o 8 16)
      ((s.fetched 2).setOperand o (operandValue o s &&& ~~~(1#8 <<< b.toNat))) := by
  rw [resetBit, State.fetched_operand, cbCost_eq_operandCycles, operandValue_eq_operand]

theorem setBit_eq (b : BitVec 3) (o : Operand8) (s : State) :
    setBit b o s = finish (operandCycles o 8 16)
      ((s.fetched 2).setOperand o (operandValue o s ||| (1#8 <<< b.toNat))) := by
  rw [setBit, State.fetched_operand, cbCost_eq_operandCycles, operandValue_eq_operand]

/-! ## Encodings -/

theorem encode_mkRot (op : RotOp) (o : Operand8) :
    (Instr.mkRot op o).encode = [byte 0xCB, byte (8 * rotCode op + operandCode o)] := by
  cases o with
  | reg r => cases op <;> cases r <;> rfl
  | atHl => cases op <;> rfl

theorem encode_mkBit (b : BitVec 3) (o : Operand8) :
    (Instr.mkBit b o).encode = [byte 0xCB, byte (0x40 + 8 * b.toNat + operandCode o)] := by
  cases o with
  | reg r => cases b using code_cases <;> cases r <;> rfl
  | atHl => cases b using code_cases <;> rfl

theorem encode_mkRes (b : BitVec 3) (o : Operand8) :
    (Instr.mkRes b o).encode = [byte 0xCB, byte (0x80 + 8 * b.toNat + operandCode o)] := by
  cases o with
  | reg r => cases b using code_cases <;> cases r <;> rfl
  | atHl => cases b using code_cases <;> rfl

theorem encode_mkSet (b : BitVec 3) (o : Operand8) :
    (Instr.mkSet b o).encode = [byte 0xCB, byte (0xC0 + 8 * b.toNat + operandCode o)] := by
  cases o with
  | reg r => cases b using code_cases <;> cases r <;> rfl
  | atHl => cases b using code_cases <;> rfl

end Sys2Proof.Machine
end

section
/-! PROOFS. The statements about the CB instructions. -/

namespace Sys2Proof.Machine

open Sys2Proof.Claims

/-- Settles O53: the executor is the rotate of R101, its result written to the operand it was read from. -/
theorem cbRotatesWriteBackAndSetFlags : Obligations.CbRotatesWriteBackAndSetFlags := fun op o s =>
  ⟨encode_mkRot op o, _, (exec_mkRot op o s).trans (rotateOperand_eq op o s), operand_and_flags_write 1 _ s o _ _⟩

/-- Settles O54: the flags are all that is written. -/
theorem bitTestsWithoutWriting : Obligations.BitTestsWithoutWriting := fun b o s =>
  ⟨encode_mkBit b o, _, (exec_mkBit b o s).trans (testBit_eq b o s),
    frame_of_register_and_flags_write _ (KeepsAllBut.refl [] _) (by decide) (KeepsMemory.refl _)⟩

/-- Settles O55: the mask is the bit `b` alone, and the masked operand is all that is written. -/
theorem resAndSetChangeOneBit : Obligations.ResAndSetChangeOneBit := fun b o s =>
  ⟨encode_mkRes b o, encode_mkSet b o,
    ⟨_, (exec_mkRes b o s).trans (resetBit_eq b o s),
      (operand_write 1 _ s o _).imp_left fun value k => by rw [value, getLsbD_resetBit]⟩,
    ⟨_, (exec_mkSet b o s).trans (setBit_eq b o s),
      (operand_write 1 _ s o _).imp_left fun value k => by rw [value, getLsbD_setBit]⟩⟩

end Sys2Proof.Machine
end

section
/-! SUPPORT. DAA (R206) as numbers and after an addition or a subtraction of decimals, and what the accumulator rotates,
the flag instructions, HALT, STOP, DI and EI do after their fetches. -/

namespace Sys2Proof.Machine

open Sys2Proof.Claims

/-! ## DAA as numbers -/

/-- The adjustment of the high digit leaves the low digit, so that the test for the low one may read A as it was. -/
theorem lowNibble_add_highDigit (a : Byte) (high : Bool) :
    ((if high then a + 0x60#8 else a) &&& 0x0F#8).toNat = a.toNat % 16 := by
  rw [toNat_and_lowNibble]
  cases high with
  | false => rfl
  | true =>
    rw [if_pos rfl, BitVec.toNat_add, BitVec.toNat_ofNat]
    omega

/-- Two corrections added one after the other are their sum. -/
theorem add_digit_corrections (a : Byte) (high low : Bool) :
    (if low then (if high then a + 0x60#8 else a) + 0x06#8 else if high then a + 0x60#8 else a) =
      byte (a.toNat + (if high then 0x60 else 0) + (if low then 0x06 else 0)) := by
  have split (h l : Nat) : byte (a.toNat + h + l) = a + byte h + byte l := by
    simp only [byte, BitVec.ofNat_add, BitVec.ofNat_toNat, BitVec.setWidth_eq]
  rw [split]
  cases high <;> cases low <;> simp [byte]

/-- Two corrections subtracted one after the other are their sum subtracted. -/
theorem sub_digit_corrections (a : Byte) (high low : Bool) :
    (if low then (if high then a - 0x60#8 else a) - 0x06#8 else if high then a - 0x60#8 else a) =
      a - byte ((if high then 0x60 else 0) + (if low then 0x06 else 0)) := by
  have split (h l : Nat) : a - byte (h + l) = a - byte h - byte l := by
    rw [byte, BitVec.ofNat_add, sub_add_eq_sub_sub]
    rfl
  rw [split]
  cases high <;> cases low <;> simp [byte]

/-- The executor of R206 is the adjustment of the statements. -/
theorem daa8_eq (a : Byte) (old : Flags) :
    daa8 a old = ((adjusted a old).1,
      { z := decide ((adjusted a old).1 = 0x00#8), n := old.n, h := false, c := (adjusted a old).2 }) := by
  obtain ⟨z, n, h, c⟩ := old
  cases n with
  | true => simp only [daa8, adjusted, if_true, sub_digit_corrections, zeroFlag_eq]
  | false =>
    have carry (above : Bool) : (if c || above then true else c) = (c || above) := by
      cases c <;> cases above <;> rfl
    simp only [daa8, adjusted, Bool.false_eq_true, if_false, lowNibble_add_highDigit, add_digit_corrections,
      zeroFlag_eq, carry]

/-! ## DAA after an addition or a subtraction of decimals -/

theorem byte_toNat (n : Nat) : (byte n).toNat = n % 256 := BitVec.toNat_ofNat n 8

theorem bcd_toNat {n : Nat} (two : n < 100) : (bcd n).toNat = n / 10 * 16 + n % 10 := by
  rw [bcd, byte_toNat]
  omega

theorem bcd_eq_zero {n : Nat} (two : n < 100) : bcd n = 0x00#8 ↔ n = 0 := by
  rw [← BitVec.toNat_inj, bcd_toNat two, BitVec.toNat_ofNat]
  omega

/-- ADD8's half carry and carry, with the digits above 9, tell DAA which digits of the sum ran over. -/
theorem adjusted_add8_bcd {x y : Nat} (hx : x < 100) (hy : y < 100) :
    let sum := add8 (bcd x) (bcd y)
    adjusted sum.1 sum.2 = (bcd ((x + y) % 100), decide (x + y ≥ 100)) := by
  have toNat_x := bcd_toNat hx
  have toNat_y := bcd_toNat hy
  have high : (bcd x).toNat + (bcd y).toNat > 255 ∨ ((bcd x).toNat + (bcd y).toNat) % 256 > 0x99 ↔ x + y ≥ 100 := by
    omega
  have low : (bcd x).toNat % 16 + (bcd y).toNat % 16 > 15 ∨ ((bcd x).toNat + (bcd y).toNat) % 256 % 16 > 9 ↔
      x % 10 + y % 10 ≥ 10 := by
    omega
  have digits : byte (((bcd x).toNat + (bcd y).toNat) % 256 + (if x + y ≥ 100 then 0x60 else 0) +
      (if x % 10 + y % 10 ≥ 10 then 0x06 else 0)) = bcd ((x + y) % 100) := by
    rw [← BitVec.toNat_inj, bcd_toNat (Nat.mod_lt _ (by decide)), byte_toNat]
    split_ifs <;> omega
  simp only [add8_eq_adc8, adc8_eq, Bool.toNat_false, Nat.add_zero, adjusted, Bool.false_eq_true, if_false,
    ← Bool.decide_or, decide_eq_true_eq, byte_toNat, high, low, digits]

/-- SUB8's half carry and carry tell DAA which digits of the difference borrowed. -/
theorem adjusted_sub8_bcd {x y : Nat} (hx : x < 100) (hy : y < 100) :
    let difference := sub8 (bcd x) (bcd y)
    adjusted difference.1 difference.2 = (bcd ((x + 100 - y) % 100), decide (x < y)) := by
  have toNat_x := bcd_toNat hx
  have toNat_y := bcd_toNat hy
  have high : (bcd x).toNat < (bcd y).toNat ↔ x < y := by omega
  have low : (bcd x).toNat % 16 < (bcd y).toNat % 16 ↔ x % 10 < y % 10 := by omega
  have digits : bcd x - bcd y - byte ((if x < y then 0x60 else 0) + (if x % 10 < y % 10 then 0x06 else 0)) =
      bcd ((x + 100 - y) % 100) := by
    rw [← BitVec.toNat_inj, BitVec.toNat_sub, BitVec.toNat_sub, bcd_toNat (Nat.mod_lt _ (by decide)), byte_toNat]
    split_ifs <;> omega
  have noBorrow : byte 0 = 0#8 := rfl
  simp only [sub8_eq_sbc8, sbc8_eq, Bool.toNat_false, Nat.add_zero, noBorrow, BitVec.sub_zero, adjusted, if_true,
    decide_eq_true_eq, high, low, digits]

/-! ## The instructions that write A or the flags, by the state before their fetch -/

/-- An instruction of one byte that writes A and then the flags. -/
theorem accumulator_and_flags_write (s : State) (v : Byte) (x : Flags) :
    let t := (((s.fetched 1).setReg .a v).setFlags x).addCycles 4
    t.reg .a = v ∧ FlagsAre x t ∧ Advanced 1 4 s t ∧ KeepsAllBut (.regA :: flagParts ++ stepParts) s t ∧
      KeepsMemory s t :=
  ⟨(State.setFlags_reg _ x .a).trans (State.setReg_reg_same _ .a v),
    frame_of_register_and_flags_write x (keepsAllBut_setReg _ .a v) (regPart_plain .a) (State.setReg_readByte _ .a v)⟩

/-- An instruction of one byte that writes the flags only. -/
theorem flags_write (s : State) (x : Flags) :
    let t := ((s.fetched 1).setFlags x).addCycles 4
    FlagsAre x t ∧ Advanced 1 4 s t ∧ KeepsAllBut (flagParts ++ stepParts) s t ∧ KeepsMemory s t :=
  frame_of_register_and_flags_write x (KeepsAllBut.refl [] _) (by decide) (KeepsMemory.refl _)

theorem rotateA_eq (op : RotOp) (s : State) :
    let out := rotated op (s.reg .a) s.flags.c
    rotateA op s = finish 4 (((s.fetched 1).setReg .a out.1).setFlags
      { z := false, n := false, h := false, c := out.2 }) := by
  simp only [rotateA, rotateAFlags, State.fetched_reg, State.fetched_flags, rotate8_eq_rotated]

theorem decimalAdjust_eq (s : State) :
    let out := adjusted (s.reg .a) s.flags
    decimalAdjust s = finish 4 (((s.fetched 1).setReg .a out.1).setFlags
      { z := decide (out.1 = 0x00#8), n := s.flags.n, h := false, c := out.2 }) := by
  simp only [decimalAdjust, State.fetched_reg, State.fetched_flags, daa8_eq]

theorem complementA_eq (s : State) :
    complementA s = finish 4 (((s.fetched 1).setReg .a (~~~(s.reg .a))).setFlags
      { z := s.flags.z, n := true, h := true, c := s.flags.c }) := by
  simp only [complementA, State.fetched_reg, State.fetched_flags]

theorem setCarry_eq (s : State) :
    setCarry s = finish 4 ((s.fetched 1).setFlags { z := s.flags.z, n := false, h := false, c := true }) := by
  simp only [setCarry, State.fetched_flags]

theorem complementCarry_eq (s : State) :
    complementCarry s =
      finish 4 ((s.fetched 1).setFlags { z := s.flags.z, n := false, h := false, c := !s.flags.c }) := by
  simp only [complementCarry, State.fetched_flags]

/-- An ALU instruction, then DAA: A and the flags C and Z when DAA adjusts the executor's result to a decimal. -/
theorem daa_after_alu {op : AluOp} {src : Source} {s t u : State} {out : Byte × Flags} {r : Nat} {carry : Bool}
    (alu : exec (Instr.mkAlu op src) s = .next t) (daa : exec .daa t = .next u)
    (result : alu8 op (s.reg .a) (sourceValue src s) s.flags.c = out)
    (decimal : adjusted out.1 out.2 = (bcd r, carry)) (two : r < 100) :
    u.reg .a = bcd r ∧ u.flags.c = carry ∧ u.flags.z = decide (r = 0) := by
  obtain ⟨t', ht, value, flags, -⟩ := exec_mkAlu_writes result
  cases ht.symm.trans alu
  have adjusts : adjusted (t.reg .a) t.flags = (bcd r, carry) := by rw [value, flags.flags, decimal]
  have run := decimalAdjust_eq t
  simp only [adjusts, bcd_eq_zero two] at run
  cases run.symm.trans daa
  obtain ⟨value', flags', -⟩ := accumulator_and_flags_write t (bcd r)
    { z := decide (r = 0), n := t.flags.n, h := false, c := carry }
  exact ⟨value', congrArg Flags.c flags'.flags, congrArg Flags.z flags'.flags⟩

/-! ## The interrupt state, HALT and the waking core -/

theorem keepsAllBut_eiPending (s : State) (b : Bool) : KeepsAllBut [.eiPending] s { s with eiPending := b } := by
  intro p hp
  cases p with
  | eiPending => exact absurd List.mem_cons_self hp
  | _ => rfl

/-- HALT after its fetch (R202): the mode is written, or the halt bug alone. -/
theorem haltCore_enters (s : State) :
    ∃ t : State, haltCore s = .next t ∧ t.pc = s.pcAfter 1 ∧ t.cycles = s.cycles + 4 ∧
      (if s.ime = true ∨ s.pending = 0x00#8 then t.mode = .halted ∧ t.haltBug = false
        else t.mode = s.mode ∧ t.haltBug = true) ∧
      KeepsAllBut (.mode :: stepParts) s t ∧ KeepsMemory s t := by
  rcases haltCore_cases s with ⟨halts, run⟩ | ⟨⟨off, pending⟩, run⟩
  · obtain ⟨⟨pc, haltBug, cycles⟩, kept, memory⟩ :=
      frame_of_register_write (cost := 4) (keepsAllBut_mode (s.fetched 1) .halted) (by decide) fun _ => rfl
    exact ⟨_, run, pc, cycles, by rw [if_pos halts]; exact ⟨rfl, haltBug⟩, kept, memory⟩
  · have runs : ¬(s.ime = true ∨ s.pending = 0x00#8) := by simp [off, pending]
    have kept := keepsAllBut_addCycles_of_kept (cost := 4) (keepsAllBut_haltBug (s.fetched 1) true)
    exact ⟨_, run, State.fetched_pc 0 s, congrArg (· + 4) (State.fetched_cycles 1 s),
      by rw [if_neg runs]; exact ⟨State.fetched_mode 1 s, rfl⟩, kept.mono (by decide), State.fetched_readByte 1 s⟩

/-- A halted core with an interrupt pending goes on as in mode RUN (R202). -/
theorem step_of_woken {s : State} (fault : s.fault = none) (halted : s.mode = .halted) (pending : s.pending ≠ 0x00#8) :
    step s = step { s with mode := .run } := by
  simp only [step, fault, halted, pending, if_false]

end Sys2Proof.Machine
end

section
/-! PROOFS. The statements about the accumulator rotates, DAA, the flag instructions, HALT, STOP, DI and EI. -/

namespace Sys2Proof.Machine

open Sys2Proof.Claims

/-- Settles O46: the four rows are the accumulator's rotates of R101, each with Z cleared. -/
theorem accumulatorRotatesClearZero : Obligations.AccumulatorRotatesClearZero := by
  intro i op s row
  simp only [List.mem_cons, Prod.mk.injEq, List.not_mem_nil, or_false] at row
  obtain ⟨rfl, rfl⟩ | ⟨rfl, rfl⟩ | ⟨rfl, rfl⟩ | ⟨rfl, rfl⟩ := row <;>
    exact ⟨rfl, _, rotateA_eq _ s, accumulator_and_flags_write s _ _⟩

/-- Settles O47: the executor of R206 gives the adjustment, for every A and all flags. -/
theorem daaAdjustsTheAccumulator : Obligations.DaaAdjustsTheAccumulator := fun s =>
  ⟨rfl, _, decimalAdjust_eq s, accumulator_and_flags_write s _ _⟩

/-- Settles O48: the executor's carries, and for a sum the digits above 9, are what DAA corrects by. -/
theorem daaGivesDecimalArithmetic : Obligations.DaaGivesDecimalArithmetic := by
  intro x y s t u hx hy ha
  refine ⟨fun add daa => ?_, fun sub daa => ?_⟩
  · exact daa_after_alu (op := .add) (src := .imm (bcd y)) add daa (congrArg (add8 · (bcd y)) ha)
      (adjusted_add8_bcd hx hy) (Nat.mod_lt _ (by decide))
  · have zero : (x + 100 - y) % 100 = 0 ↔ x = y := by omega
    rw [← decide_eq_decide.mpr zero]
    exact daa_after_alu (op := .sub) (src := .imm (bcd y)) sub daa (congrArg (sub8 · (bcd y)) ha)
      (adjusted_sub8_bcd hx hy) (Nat.mod_lt _ (by decide))

/-- Settles O49: the flag Z written is the one of before the instruction, and only CPL writes A. -/
theorem flagInstructionsKeepZero : Obligations.FlagInstructionsKeepZero := fun s =>
  ⟨rfl, rfl, rfl,
    ⟨_, complementA_eq s, (accumulator_and_flags_write s _ _).imp_left fun value => by rw [value, BitVec.toNat_not]⟩,
    ⟨_, setCarry_eq s, flags_write s _⟩, ⟨_, complementCarry_eq s, flags_write s _⟩⟩

/-- Settles O50: HALT by its two cases; a halted core idles or wakes by the pending interrupts alone. -/
theorem haltStopsFetchUntilPending : Obligations.HaltStopsFetchUntilPending := fun s =>
  ⟨rfl, haltCore_enters s, fun fault halted quiet => step_of_idle ⟨fault, .inr ⟨halted, quiet⟩⟩, step_of_woken,
    fun armed => ⟨s.fetch8_byte, s.fetch8_pc.trans (if_pos armed), s.fetch8_haltBug⟩⟩

/-- Settles O51: STOP writes the mode after both fetches, and a stopped core is idle whatever is pending. -/
theorem stopWaitsForTheHost : Obligations.StopWaitsForTheHost := fun n8 s =>
  ⟨rfl, ⟨_, rfl, rfl, frame_of_register_write (keepsAllBut_mode _ _) (by decide) fun _ => rfl⟩,
    fun fault stopped => step_of_idle ⟨fault, .inl stopped⟩, State.wake_of_stopped⟩

/-- Settles O52: DI and EI write the interrupt state after the fetch, and the delayed effect is O16's. -/
theorem diIsImmediateAndEiDelayed : Obligations.DiIsImmediateAndEiDelayed := fun s =>
  ⟨rfl, rfl, ⟨_, rfl, rfl, rfl, frame_of_register_write (keepsAllBut_interrupts _ _ _) (by decide) fun _ => rfl⟩,
    ⟨_, rfl, rfl, by
      obtain ⟨advanced, kept, memory⟩ :=
        frame_of_register_write (cost := 4) (keepsAllBut_eiPending (s.fetched 1) true) (by decide) fun _ => rfl
      exact ⟨advanced, kept, memory, fun i runs notDi legal =>
        eiTakesEffectAfterTheNextInstruction.1 _ i runs rfl legal notDi⟩⟩⟩

end Sys2Proof.Machine
end

section
/-! SUPPORT. What an interrupt entry leaves in the state (R236), and which instruction a step that records a fault has
run (R230, R231). -/

namespace Sys2Proof.Machine

open Sys2Proof.Claims

/-! ## The source of an interrupt entry -/

/-- What is pending is among the five sources (R234). -/
theorem State.pending_and_sources (s : State) : s.pending &&& 0x1F#8 = s.pending := by
  rw [State.pending, BitVec.and_assoc, BitVec.and_self]

theorem interruptVector_eq_ofNat (n : Nat) : interruptVector n = BitVec.ofNat 16 (0x0040 + 8 * n) := by
  rw [interruptVector, BitVec.ofNat_add, BitVec.ofNat_mul]

/-! ## The frame of an interrupt entry -/

/-- An interrupt entry stores the return address on the stack, the HALT's own while the halt bug is armed, and clears
the source's bit of IF; the push comes last, so a stack at IF holds the pushed byte. -/
theorem interruptEntry_stores (s : State) (n : Nat) {ret : Word16}
    (isReturn : ret = if s.haltBug then s.pc - 1#16 else s.pc) :
    (s.interruptEntry n).readByte (s.sp - 1#16) = byte (ret.toNat / 256) ∧
    (s.interruptEntry n).readByte (s.sp - 2#16) = byte (ret.toNat % 256) ∧
    (s.sp - 1#16 ≠ 0xFF0F#16 → s.sp - 2#16 ≠ 0xFF0F#16 →
      (s.interruptEntry n).readByte 0xFF0F#16 = s.readByte 0xFF0F#16 &&& ~~~(byte (2 ^ n))) := by
  have distinct : s.sp - 2#16 ≠ s.sp - 1#16 := by bv_omega
  have mask : 1#8 <<< n = byte (2 ^ n) := (shiftLeft_eq_byte 1#8 n).trans (congrArg byte (Nat.one_mul _))
  subst isReturn
  refine ⟨?_, ?_, fun high low => ?_⟩
  · rw [State.interruptEntry_readByte, if_neg distinct, if_pos rfl, hiByte_eq_byte]
  · rw [State.interruptEntry_readByte, if_pos rfl, loByte_eq_byte]
  · rw [State.interruptEntry_readByte, if_neg low, if_neg high, if_pos (show addrIF = 0xFF0F#16 from rfl), mask, addrIF]

theorem keepsMemoryBut_interruptEntry (s : State) (n : Nat) :
    KeepsMemoryBut [0xFF0F#16, s.sp - 1#16, s.sp - 2#16] s (s.interruptEntry n) := by
  intro a ha
  obtain ⟨notIF, high, low⟩ : a ≠ addrIF ∧ a ≠ s.sp - 1#16 ∧ a ≠ s.sp - 2#16 := by simpa [addrIF] using ha
  rw [State.interruptEntry_readByte, if_neg low.symm, if_neg high.symm, if_neg notIF.symm]

theorem keepsAllBut_interruptEntry (s : State) (n : Nat) :
    KeepsAllBut [.pc, .sp, .ime, .eiPending, .haltBug] s (s.interruptEntry n) := by
  intro p hp
  cases p with
  | pc | sp | ime | eiPending | haltBug => exact absurd (by decide) hp
  | _ => rfl

/-- An interrupt entry neither reads nor writes the mode, so a halted core that wakes enters as a running one does. -/
theorem interruptEntry_of_woken (s : State) (n : Nat) (m : Mode) :
    ({ s with mode := m } : State).interruptEntry n = { s.interruptEntry n with mode := m } := rfl

theorem keepsAllBut_interrupt_step (s : State) (n cost : Nat) :
    KeepsAllBut [.pc, .sp, .ime, .eiPending, .haltBug, .mode, .cycles] s
      (({ s.interruptEntry n with mode := .run } : State).addCycles cost) :=
  ((keepsAllBut_interruptEntry s n).trans (keepsAllBut_mode _ .run)).trans (keepsAllBut_addCycles _ cost)

theorem keepsMemoryBut_interrupt_step (s : State) (n cost : Nat) :
    KeepsMemoryBut [0xFF0F#16, s.sp - 1#16, s.sp - 2#16] s
      (({ s.interruptEntry n with mode := .run } : State).addCycles cost) := by
  have running (u : State) : KeepsMemory u (({ u with mode := .run } : State).addCycles cost) := fun _ => rfl
  exact (keepsMemoryBut_interruptEntry s n).trans_keepsMemory (running _)

/-! ## The illegal row that a step runs -/

theorem keepsAllBut_decodeFault (s : State) (b : Byte) : KeepsAllBut [.fault, .pc, .haltBug] s (s.decodeFault b) := by
  have records : KeepsAllBut [.fault] (s.fetched 1) (s.decodeFault b) := by
    intro p hp
    cases p with
    | fault => exact absurd List.mem_cons_self hp
    | _ => rfl
  exact ((keepsAllBut_fetched 1 s).trans records).mono (by decide)

/-- The byte of an illegal row that a step runs is the byte at PC, with the halt bug too: it only repeats that byte. -/
theorem State.Runs.illegalRow_byte {s : State} {i : Instr} {b : Byte} (runs : s.Runs i) (row : (i, b) ∈ illegalRows) :
    s.readByte s.pc = b := by
  have encoded := encode_of_illegalRow row
  rw [runs.instr, State.nextInstr_eq] at encoded
  split at encoded
  · exact eq_of_encode_decodeWindow encoded
  · exact eq_of_encode_decodeWindow encoded

/-- A step that records a fault has run an illegal row: idle steps, interrupt entries and the other instructions record
none (R230). -/
theorem illegalRow_of_step_faulted {s t : State} (h : step s = .next t) (faulted : t.fault ≠ none) :
    ∃ (i : Instr) (b : Byte), s.Runs i ∧ (i, b) ∈ illegalRows := by
  have unfaulted := fault_none_of_step h
  cases step_stepCase h with
  | idle _ => exact absurd unfaulted faulted
  | interrupt _ _ => exact absurd unfaulted faulted
  | @instruction i u runs hc =>
    by_contra noRow
    have legal (b : Byte) : (i, b) ∉ illegalRows := fun row => noRow ⟨i, b, runs, row⟩
    exact faulted ((u.afterInstruction_fault _).trans ((hc.fault_kept legal).trans unfaulted))

theorem stepReturn_of_fault {s t : State} {f : Fault} (h : step s = .next t) (fault : t.fault = some f) :
    stepReturn s = some (.faulted f) := by
  simp only [stepReturn, h, fault]

end Sys2Proof.Machine
end

section
/-! PROOFS. The statements about interrupt entry and the decode fault. -/

namespace Sys2Proof.Machine

open Sys2Proof.Claims

/-- Settles O17: the entry is of the lowest pending source, and a halted core's wake adds the mode alone to what it
changes. -/
theorem interruptEntryTakesTheLowestSource : Obligations.InterruptEntryTakesTheLowestSource := by
  intro s awake due
  have pending : s.pending &&& 0x1F#8 ≠ 0x00#8 := s.pending_and_sources.symm ▸ due.2
  obtain ⟨among, isPending, lowest⟩ := lowestPending_spec s.pending pending
  obtain ⟨high, low, acknowledged⟩ := interruptEntry_stores s (lowestPending s.pending) rfl
  have entry := step_of_interrupt awake due
  rw [interruptEntry_of_woken] at entry
  exact ⟨_, _, among, isPending, lowest, entry, interruptVector_eq_ofNat _, by simp, rfl, rfl, rfl, rfl, rfl, high, low,
    acknowledged, keepsAllBut_interrupt_step s _ 20, keepsMemoryBut_interrupt_step s _ 20⟩

/-- Settles O20: the row's meaning is the decode fault of its byte, which the delayed EI leaves alone and every later
step answers. -/
theorem illegalOpcodeTakesTheDecodeFault : Obligations.IllegalOpcodeTakesTheDecodeFault := by
  intro i b s row
  refine ⟨encode_of_illegalRow row, _, exec_of_illegalRow row s, rfl, State.fetched_pc 0 s, State.fetched_haltBug 0 s,
    keepsAllBut_decodeFault s b, State.fetched_readByte 1 s, fun runs => ?_⟩
  have records := step_of_runs_illegal runs row
  exact ⟨stepReturn_of_fault records rfl, _, records, step_faulted rfl⟩

/-- Settles O21: an idle step, an interrupt entry and an instruction each answer a next state. -/
theorem stepAnswersUnlessFaulted : Obligations.StepAnswersUnlessFaulted := by
  intro s unfaulted
  rcases step_cases unfaulted with ⟨-, idle⟩ | ⟨-, -, entry⟩ | ⟨-, u, -, instruction⟩
  · exact ⟨_, idle⟩
  · exact ⟨_, entry⟩
  · exact ⟨_, instruction⟩

/-- Settles O22: the step has run an illegal row, whose byte is the one at PC, and its decode fault adds no cycles. -/
theorem onlyIllegalBytesFault : Obligations.OnlyIllegalBytesFault := by
  intro s t _ h faulted
  obtain ⟨i, b, runs, row⟩ := illegalRow_of_step_faulted h faulted
  have ⟨awake, quiet, _⟩ := runs
  obtain rfl := runs.illegalRow_byte row
  cases (step_of_runs_illegal runs row).symm.trans h
  exact ⟨awake, quiet, mem_illegalBytes_of_row row, rfl, decodeFault_cycles _ _⟩

end Sys2Proof.Machine
end
